-- ==== Sys2Proof/Word.lean ====
section
/-!
DEFINITION. The word types of the core (rules R12, R21, R25): bytes, 16-bit words, register numbers.
-/

namespace Sys2Proof

/-- A `u8` of rule R12: a general register, a memory byte, a timer. -/
abbrev Byte := BitVec 8

/-- A `u16` of rule R12: an opcode word, `PC`, `I`, a stack entry. -/
abbrev Word := BitVec 16

/-- The number of a general register, 0..15 (rule R21): V0 to VF. -/
abbrev Reg := Fin 16

/-- The number of a key, 0..15 (rule R32). -/
abbrev Key := Fin 16

end Sys2Proof
end

