-- ==== Sys2Proof/Machine/Fields.lean ====
section
/-!
DEFINITION. The fields of an opcode word (rules R13, R91, R92), the order of its two bytes (rule R62), and
the words that no row of the opcode map takes (rule R97).
-/

namespace Sys2Proof.Machine

/-- The 16-bit word of two bytes, big-endian (rule R62): the byte at the lower address is bits 15 to 8. -/
def bigEndian (hi lo : Byte) : Word := BitVec.ofNat 16 (hi.toNat * 0x100 + lo.toNat)

/-- The two bytes of a word in memory order, the more significant first (rules R62, R90). -/
def wordBytes (w : Word) : List Byte := [w.extractLsb' 8 8, w.extractLsb' 0 8]

/-- `op[15:12]`, the high nibble that selects the family (rule R94). -/
def fieldFamily (w : Word) : BitVec 4 := w.extractLsb' 12 4

/-- `X = op[11:8]` (rule R92). -/
def fieldX (w : Word) : Reg := (w.extractLsb' 8 4).toFin

/-- `Y = op[7:4]` (rule R92). -/
def fieldY (w : Word) : Reg := (w.extractLsb' 4 4).toFin

/-- `N = op[3:0]` (rule R92), the low nibble. -/
def fieldN (w : Word) : BitVec 4 := w.extractLsb' 0 4

/-- `NN = op[7:0]` (rule R92), the low byte. -/
def fieldNN (w : Word) : Byte := w.extractLsb' 0 8

/-- `NNN = op[11:0]` (rule R92). -/
def fieldNNN (w : Word) : BitVec 12 := w.extractLsb' 0 12

/-- Put together the word of a format with one 12-bit operand (rule R91, format NNN). -/
def wordNNN (family : BitVec 4) (nnn : BitVec 12) : Word := BitVec.ofNat 16 (family.toNat * 0x1000 + nnn.toNat)

/-- Put together the word of the formats XNN and X (rule R91). -/
def wordXNN (family : BitVec 4) (x : Reg) (nn : Byte) : Word :=
  BitVec.ofNat 16 (family.toNat * 0x1000 + x.val * 0x100 + nn.toNat)

/-- Put together the word of the formats XY and XYN (rule R91). -/
def wordXYN (family : BitVec 4) (x y : Reg) (n : BitVec 4) : Word :=
  BitVec.ofNat 16 (family.toNat * 0x1000 + x.val * 0x100 + y.val * 0x10 + n.toNat)

/-- The words of rule R97 outside family 0: those that no row of the opcode map takes. Family 0 is left out because
row 3, SYS, takes every word of it that 00E0 and 00EE do not. -/
def noRow (w : Word) : Bool :=
  match (fieldFamily w).toNat with
  | 5 => fieldN w != 0
  | 8 => (fieldN w).toNat ∈ [0x8, 0x9, 0xA, 0xB, 0xC, 0xD, 0xF]
  | 9 => fieldN w != 0
  | 14 => !decide ((fieldNN w).toNat ∈ [0x9E, 0xA1])
  | 15 => !decide ((fieldNN w).toNat ∈ [0x07, 0x0A, 0x15, 0x18, 0x1E, 0x29, 0x33, 0x55, 0x65])
  | _ => false

end Sys2Proof.Machine
end

