-- ==== Sys2Proof/Config.lean ====
section
/-!
DEFINITION. What is fixed for the hardware (rule R9): its constants, and the parameters the spec leaves
OPEN. An open parameter is an `opaque` constant: nothing can evaluate it, so every theorem about the model holds for
every value of it. The parameters `MODE` and `FONT` are plain data of `Machine.State` instead (fixed at construction,
changed by no step), so every theorem about all states holds for every mode and every font.
-/

namespace Sys2Proof

/-- `MEMORY_SIZE` (rule R9): addresses 0x000 to 0xFFF. -/
def Config.memorySize : Nat := 4096

/-- `PROGRAM_BASE` (rule R9). -/
def Config.programBase : Nat := 0x200

/-- `MAX_PROGRAM_SIZE` (rule R9): `MEMORY_SIZE - 0x200`, 3584 bytes. -/
def Config.maxProgramSize : Nat := Config.memorySize - Config.programBase

/-- `FONT_BASE` (rule R9). -/
def Config.fontBase : Nat := 0x050

/-- `FONT_SIZE` (rule R9): 16 glyphs of 5 bytes. -/
def Config.fontSize : Nat := 80

/-- `STACK_DEPTH` (rule R9). -/
def Config.stackDepth : Nat := 16

/-- The random source `RNG` (rules R9, R236; decision D17 leaves it OPEN): the byte that draw number `drawn` of a core
constructed with `seed` returns. FREE VALUE, log entry 1: no law is assumed of it. -/
opaque Config.rngByte (seed drawn : Nat) : Byte

/-- `KEY_SELECT` (rules R9, R252; decision D16 leaves it OPEN): a choice made from the ascending list of the pressed
keys, when there are two or more. FREE VALUE, log entry 2: `Machine.selectKey` reduces it to a position in that list,
so what it names is always a pressed key, and every choice among them is some value of this constant. -/
opaque Config.keyChoice (pressed : List Key) : Nat

/-- `FB_CELL_ONES` (rules R9, R33; decision D22 leaves it OPEN): the width of the value the renderer's view shows for a
cell. FREE VALUE, log entry 3: no instruction can observe it. -/
opaque Config.fbCellOnes : Nat

end Sys2Proof
end

