-- ==== Sys2Proof/Machine/Font.lean ====
section
/-!
DEFINITION. The default table of the parameter `FONT` (rule R31): 16 glyphs of 5 rows, top row first, bit 7
the leftmost pixel. The bytes are the spec's default, which the spec itself takes from general knowledge (log entry 4).
-/

namespace Sys2Proof.Machine

/-- The glyphs 0 to 7 of the default table (rule R31). -/
def glyphs0to7 : List Byte :=
  [0xF0, 0x90, 0x90, 0x90, 0xF0] ++ [0x20, 0x60, 0x20, 0x20, 0x70] ++
  [0xF0, 0x10, 0xF0, 0x80, 0xF0] ++ [0xF0, 0x10, 0xF0, 0x10, 0xF0] ++
  [0x90, 0x90, 0xF0, 0x10, 0x10] ++ [0xF0, 0x80, 0xF0, 0x10, 0xF0] ++
  [0xF0, 0x80, 0xF0, 0x90, 0xF0] ++ [0xF0, 0x10, 0x20, 0x40, 0x40]

/-- The glyphs 8 to F of the default table (rule R31). -/
def glyphs8toF : List Byte :=
  [0xF0, 0x90, 0xF0, 0x90, 0xF0] ++ [0xF0, 0x90, 0xF0, 0x10, 0xF0] ++
  [0xF0, 0x90, 0xF0, 0x90, 0x90] ++ [0xE0, 0x90, 0xE0, 0x90, 0xE0] ++
  [0xF0, 0x80, 0x80, 0x80, 0xF0] ++ [0xE0, 0x90, 0x90, 0x90, 0xE0] ++
  [0xF0, 0x80, 0xF0, 0x80, 0xF0] ++ [0xF0, 0x80, 0xF0, 0x80, 0x80]

/-- The default value of `FONT` (rule R31, decision D15). -/
def defaultFont : Vector Byte 80 := Vector.ofFn fun j => (glyphs0to7 ++ glyphs8toF).getD j.val 0

end Sys2Proof.Machine
end

