-- ==== Sys2Proof/Machine/Memory.lean ====
section
/-!
DEFINITION. `MEM`, 4096 bytes (rules R30, R60), as a list of (address, byte) pairs in one canonical form: addresses
strictly rising, all at most 0xFFF, and no entry equal to what an unlisted address reads as. What an unlisted address
reads as is the memory's contents after `reset()` (rules R42, R61): the font at 0x050 to 0x09F, 0 elsewhere.
-/

namespace Sys2Proof.Machine

/-- The bytes that differ from the contents after `reset()`. -/
abbrev Memory := List Host.Cell

/-- The contents of an address after `reset()` (rules R42, R61): `FONT[a - 0x050]` in the font area, else 0. -/
def Memory.unlisted (font : Vector Byte 80) (a : Nat) : Byte :=
  if Config.fontBase ≤ a then font[a - Config.fontBase]?.getD 0 else 0

/-- The byte listed for an address, if there is one. -/
def Memory.lookup (m : Memory) (a : Nat) : Option Byte :=
  match m with
  | [] => none
  | c :: rest => if c.1 = a then some c.2 else Memory.lookup rest a

/-- `MemRead(addr, 1)` (rules R14, R64). -/
def Memory.read (font : Vector Byte 80) (m : Memory) (a : Nat) : Byte :=
  (m.lookup a).getD (Memory.unlisted font a)

/-- The memory with no entry for an address. -/
def Memory.erase (m : Memory) (a : Nat) : Memory := m.filter fun c => c.1 != a

/-- Put an entry before the first one with a higher address. -/
def Memory.insertCell (c : Host.Cell) (m : Memory) : Memory :=
  match m with
  | [] => [c]
  | d :: rest => if c.1 < d.1 then c :: d :: rest else d :: Memory.insertCell c rest

/-- `MemWrite(addr, 1, v)` (rules R14, R64). Writing what an unlisted address reads as leaves no entry, so equal
memories are equal lists. -/
def Memory.write (font : Vector Byte 80) (m : Memory) (a : Nat) (b : Byte) : Memory :=
  if b = Memory.unlisted font a then m.erase a else Memory.insertCell (a, b) (m.erase a)

/-- The canonical form. -/
def Memory.wf (font : Vector Byte 80) (m : Memory) : Bool :=
  decide (m.Pairwise fun c d => c.1 < d.1) &&
    m.all fun c => decide (c.1 < Config.memorySize) && c.2 != Memory.unlisted font c.1

end Sys2Proof.Machine
end

