-- ==== Sys2Proof/Machine/State.lean ====
section
/-!
DEFINITION. The state of one core (rule R20: "The complete state of one core is the tuple below. Nothing else is
state."), the reasons a step can stop, and the state after reset (rule R42). Every part is plain data.
-/

namespace Sys2Proof.Machine

/-- `MODE`, the compatibility mode (rules R3, R40). -/
inductive Mode where
  | legacy
  | intermediate
  | modern
  deriving DecidableEq, Repr

/-- `FAULT_CAUSE` by name (rules R39, R277); the codes are `FaultCause.code`. The codes 6 and 7 are not used. -/
inductive FaultCause where
  /-- Code 0: no fault since reset. -/
  | noFault
  /-- Code 1: `PC > 0xFFE` at the start of a cycle (rule R278). -/
  | fetchOutOfRange
  /-- Code 2: DXYN, FX33, FX55 or FX65 would touch an address above 0xFFF (rule R279). -/
  | dataOutOfRange
  /-- Code 3: 2NNN with 16 entries in use (rule R280). -/
  | stackOverflow
  /-- Code 4: 00EE with no entry in use (rule R281). -/
  | stackUnderflow
  /-- Code 5: EX9E or EXA1 with a key number above 15 (rule R282). -/
  | keyIndexOutOfRange
  deriving DecidableEq, Repr

/-- `RNG_STATE` (rules R41, R236): the seed given to `construct`, the number of bytes drawn since then, and the bytes
of an injected deterministic sequence not yet drawn (empty in production use). Log entry 1. -/
structure RngState where
  seed     : Nat
  drawn    : Nat
  injected : List Byte
  deriving DecidableEq, Repr

/-- The 64 x 32 one-bit cells of `FB` (rule R33), a row of 64 cells at a time: cell (x, y) is bit x of row y. -/
abbrev Framebuffer := Vector (BitVec 64) 32

/-- The complete state of one core (rule R20), with the two configuration parameters that are plain data. -/
structure State where
  /-- `V[0..15]` (rule R21). -/
  v          : Vector Byte 16
  /-- `I` (rule R27): all 16 bits are kept. -/
  i          : Word
  /-- `PC` (rule R25). -/
  pc         : Word
  /-- `SP` (rule R28): the number of stack entries in use, 0..16. -/
  sp         : Fin 17
  /-- `STACK[0..15]` (rule R29). -/
  stack      : Vector Word 16
  /-- `MEM` (rule R30). -/
  mem        : Memory
  /-- `FB` (rule R33). -/
  fb         : Framebuffer
  /-- `KEYS[0..15]` (rule R32). -/
  keys       : Vector Bool 16
  /-- `DT` (rule R34). -/
  dt         : Byte
  /-- `ST` (rule R35). -/
  st         : Byte
  /-- `REDRAW` (rule R36). -/
  redraw     : Bool
  /-- `TONE` (rule R37). -/
  tone       : Bool
  /-- `UNK` (rule R38). -/
  unk        : Bool
  /-- `UNK_WORD` (rule R38). -/
  unkWord    : Word
  /-- `FAULT_CAUSE` (rule R39). -/
  faultCause : FaultCause
  /-- `FAULT_INFO` (rule R39). -/
  faultInfo  : Word
  /-- `RNG_STATE` (rule R41). -/
  rng        : RngState
  /-- `MODE` (rule R40): fixed by `construct`. -/
  mode       : Mode
  /-- `FONT` (rules R9, R31): fixed by `construct`. -/
  font       : Vector Byte 80
  deriving DecidableEq, Repr

/-- Why a step stops with a fault. There is no such reason on this hardware, so the type has no constructor: every
fault of the spec is a recorded state (rules R39, R276), taken as a next state by `State.raiseFault`, and a cycle of a
faulted core is a next state too (rule R126). -/
inductive Fault
  deriving DecidableEq, Repr

/-- Why a step refuses. -/
inductive Refusal where
  /-- Raised by an arm of `exec` whose instruction has no meaning yet, and by nothing else. No arm does. Safe. -/
  | notModelled (mnemonic : String)
  deriving DecidableEq, Repr

/-- What executing one instruction answers. -/
abbrev Result := Host.Outcome State Fault Refusal

/-- The state after `reset()` for given values of what `reset()` leaves alone (rules R42, R311, R312). -/
def State.afterReset (mode : Mode) (font : Vector Byte 80) (rng : RngState) : State where
  v          := Vector.replicate 16 0
  i          := 0
  pc         := 0x200
  sp         := 0
  stack      := Vector.replicate 16 0
  mem        := []
  fb         := Vector.replicate 32 0
  keys       := Vector.replicate 16 false
  dt         := 0
  st         := 0
  redraw     := false
  tone       := false
  unk        := false
  unkWord    := 0
  faultCause := .noFault
  faultInfo  := 0
  rng        := rng
  mode       := mode
  font       := font

/-- The machine right after reset. The spec gives no reset value for `MODE`, `RNG_STATE` and `FONT` (rules R40, R41,
R9): Modern, an unused source with seed 0, and the default font are the model's choice (log entries 4, 5, 6). -/
def State.reset : State := State.afterReset .modern defaultFont ⟨0, 0, []⟩

end Sys2Proof.Machine
end

