-- ==== Sys2Proof/Machine/Display.lean ====
section
/-!
DEFINITION. The Display & Collision Engine: cells by linear index (rule R33), the cells a sprite targets
(rules R211, R212), and drawing them by XOR with collision detection (rule R211).
-/

namespace Sys2Proof.Machine

/-- Row `y` of the framebuffer, row 0 at the top. -/
def Framebuffer.row (fb : Framebuffer) (y : Nat) : BitVec 64 := fb[y]?.getD 0

/-- `FB[k]` (rules R14, R33): cell (x, y) has linear index `x + 64*y`. -/
def Framebuffer.cell (fb : Framebuffer) (k : Nat) : Bool := (fb.row (k / 64)).getLsbD (k % 64)

/-- `FB[k] <- FB[k] ^ 1` (rule R211). -/
def Framebuffer.flip (fb : Framebuffer) (k : Nat) : Framebuffer :=
  fb.setIfInBounds (k / 64) (fb.row (k / 64) ^^^ BitVec.twoPow 64 (k % 64))

/-- Every cell unset (rule R210). -/
def Framebuffer.clear : Framebuffer := Vector.replicate 32 0

/-- The columns 0..7 whose bit of a sprite row is set; column 0 is bit 7 (rules R13, R211). -/
def spriteColumns (b : Byte) : List Nat := (List.range 8).filter fun col => b.getLsbD (7 - col)

/-- The cells the sprite rows from number `row` on target, in the order of rule R211: linear index
`((x + col) + (y + row) * 64) mod 2048`, reduced only at the end (rule R212). -/
def spriteCells (x y row : Nat) (rows : List Byte) : List Nat :=
  match rows with
  | [] => []
  | b :: rest => (spriteColumns b).map (fun col => ((x + col) + (y + row) * 64) % 2048) ++ spriteCells x y (row + 1) rest

/-- XOR the cells in order; the Bool says whether one was set just before its XOR (rule R211). -/
def drawCells (fb : Framebuffer) (hit : Bool) (cells : List Nat) : Framebuffer × Bool :=
  match cells with
  | [] => (fb, hit)
  | k :: rest => drawCells (fb.flip k) (hit || fb.cell k) rest

end Sys2Proof.Machine
end

