-- ==== Sys2Proof/Machine/Flags.lean ====
section
/-!
DEFINITION. Every value an instruction writes to VF as a flag (rule R23), from the operands the instruction
started with. The order of the writes (the flag after the result, rules R15, R24) is `State.setFlag`'s callers'.
-/

namespace Sys2Proof.Machine

/-- 8XY4 (rule R168): the unsigned sum exceeds 255. -/
def carryOut (a b : Byte) : Bool := a.toNat + b.toNat > 255

/-- 8XY5 and 8XY7 (rules R169, R170): no borrow, that is, the subtrahend is not greater than the minuend. -/
def noBorrow (minuend subtrahend : Byte) : Bool := !decide (subtrahend.toNat > minuend.toNat)

/-- 8XY6 (rule R171): bit 0 of the source before the shift. -/
def bitOutRight (src : Byte) : Bool := src.getLsbD 0

/-- 8XYE (rule R172): bit 7 of the source before the shift. -/
def bitOutLeft (src : Byte) : Bool := src.getLsbD 7

/-- FX1E (rule R191): the sum, not reduced, exceeds 0x0FFF. -/
def indexOverflow (i : Word) (b : Byte) : Bool := i.toNat + b.toNat > 0x0FFF

/-- What VF holds for a flag (rule R23). -/
def flagByte (f : Bool) : Byte := if f then 1 else 0

end Sys2Proof.Machine
end

