-- ==== Sys2Proof/Machine/Ops.lean ====
section
/-!
DEFINITION. The named operations over the state that the meanings are written with: registers, program counter,
memory, stack, keys, random source, timers, latches; taking a fault and the reset that ends one.
-/

namespace Sys2Proof.Machine

/-- Register 15, VF (rule R21). -/
def vf : Reg := 15

/-- `V[r]` (rules R14, R21). -/
def State.reg (s : State) (r : Reg) : Byte := s.v[r]

/-- `V[r] <- b` (rules R14, R21). -/
def State.setReg (s : State) (r : Reg) (b : Byte) : State := { s with v := s.v.set r b }

/-- Write a flag to VF (rule R23). A meaning calls it after it wrote its result, so the flag wins (rule R24). -/
def State.setFlag (s : State) (f : Bool) : State := s.setReg vf (flagByte f)

/-- `I <- w` (rule R27). -/
def State.setIndex (s : State) (w : Word) : State := { s with i := w }

/-- `PC <- w` (rules R14, R25). -/
def State.setPc (s : State) (w : Word) : State := { s with pc := w }

/-- `PC <- PC + 2`, reduced mod 2^16 (rule R124). -/
def State.advance (s : State) : State := s.setPc (s.pc + 2)

/-- A conditional skip (rule R124): `PC + 4` if the condition holds, else `PC + 2`. -/
def State.skipIf (s : State) (c : Bool) : State := s.setPc (s.pc + if c then 4 else 2)

/-- `DT <- b` (rule R231). -/
def State.setDelay (s : State) (b : Byte) : State := { s with dt := b }

/-- `ST <- b` (rule R232). -/
def State.setSound (s : State) (b : Byte) : State := { s with st := b }

/-- Put a framebuffer and raise "redraw needed" (rules R36, R210, R211). -/
def State.setDisplay (s : State) (fb : Framebuffer) : State := { s with fb := fb, redraw := true }

/-- `MemRead(a, 1)` (rule R64). -/
def State.readByte (s : State) (a : Nat) : Byte := Memory.read s.font s.mem a

/-- `MemRead(a, 1), MemRead(a + 1, 1), ...`: `n` bytes at ascending addresses (rule R63). -/
def State.readBytes (s : State) (a n : Nat) : List Byte := (List.range n).map fun k => s.readByte (a + k)

/-- `MemWrite(a, 1, b)` (rule R64). -/
def State.writeByte (s : State) (a : Nat) (b : Byte) : State := { s with mem := Memory.write s.font s.mem a b }

/-- Bytes written at ascending addresses (rule R63). -/
def State.writeBytes (s : State) (a : Nat) (bytes : List Byte) : State :=
  match bytes with
  | [] => s
  | b :: rest => (s.writeByte a b).writeBytes (a + 1) rest

/-- Registers 0, 1, ... loaded from a list of bytes in ascending order (rule R195). -/
def loadFrom (v : Vector Byte 16) (k : Nat) (bytes : List Byte) : Vector Byte 16 :=
  match bytes with
  | [] => v
  | b :: rest => loadFrom (v.setIfInBounds k b) (k + 1) rest

/-- Registers 0..x loaded from a list of x + 1 bytes (rule R195). -/
def State.setRegsFrom (s : State) (bytes : List Byte) : State := { s with v := loadFrom s.v 0 bytes }

/-- The contents of registers 0..x in ascending order (rule R194). -/
def State.regsUpTo (s : State) (x : Reg) : List Byte := s.v.toList.take (x.val + 1)

/-- `op <- MemRead(PC, 2)`: the bytes at `PC` and `PC + 1`, big-endian (rules R62, R121). -/
def State.fetchWord (s : State) : Word := bigEndian (s.readByte s.pc.toNat) (s.readByte (s.pc.toNat + 1))

/-- The push of 2NNN (rules R28, R142): `STACK[SP] <- w`, then `SP + 1`; none when 16 entries are in use. -/
def State.push? (s : State) (w : Word) : Option State :=
  if h : s.sp.val < 16 then
    some { s with stack := s.stack.set s.sp.val w h, sp := ⟨s.sp.val + 1, by omega⟩ }
  else none

/-- The pop of 00EE (rules R28, R141): `SP - 1`, then `STACK[SP]`, which keeps its value (rule R29); none when no entry
is in use. -/
def State.pop? (s : State) : Option (Word × State) :=
  if h : 0 < s.sp.val then
    some (s.stack[s.sp.val - 1], { s with sp := ⟨s.sp.val - 1, by omega⟩ })
  else none

/-- `KEYS[k]` for a key number taken from a register (rule R250). -/
def State.keyDown (s : State) (k : Nat) : Bool := s.keys[k]?.getD false

/-- The pressed keys in ascending order, the set P of rule R252. -/
def State.pressedKeys (s : State) : List Key := (List.finRange 16).filter fun k => s.keys[k]

/-- `KEY_SELECT(P)` (rules R9, R252): a member of P, by the free choice of `Config.keyChoice` when there are several
(log entry 2). -/
def selectKey (pressed : List Key) : Option Key :=
  match pressed with
  | [] => none
  | [k] => some k
  | k :: k' :: rest => (k :: k' :: rest)[Config.keyChoice (k :: k' :: rest) % (k :: k' :: rest).length]?

/-- `rng_next()` (rules R14, R236): one byte and the advanced state. Injected bytes come first, in order; then the
free bytes of `Config.rngByte` (log entry 1). -/
def RngState.next (r : RngState) : Byte × RngState :=
  match r.injected with
  | [] => (Config.rngByte r.seed r.drawn, { r with drawn := r.drawn + 1 })
  | b :: rest => (b, { r with drawn := r.drawn + 1, injected := rest })

/-- Store the advanced state of the random source (rule R236). -/
def State.setRng (s : State) (r : RngState) : State := { s with rng := r }

/-- `signal UnknownOpcode(op)` (rules R14, R271). -/
def State.signalUnknown (s : State) (op : Word) : State := { s with unk := true, unkWord := op }

/-- The code of a cause, 3 bits (rule R277). -/
def FaultCause.code : FaultCause → BitVec 3
  | .noFault => 0
  | .fetchOutOfRange => 1
  | .dataOutOfRange => 2
  | .stackOverflow => 3
  | .stackUnderflow => 4
  | .keyIndexOutOfRange => 5

/-- The 2-bit encoding of `MODE` (rule R40, decision D32). -/
def Mode.code : Mode → BitVec 2
  | .legacy => 0
  | .intermediate => 1
  | .modern => 2

/-- The mode a 2-bit configuration input selects; 3 is not allowed (rule R40). -/
def Mode.ofCode (c : BitVec 2) : Option Mode :=
  match c.toNat with
  | 0 => some .legacy
  | 1 => some .intermediate
  | 2 => some .modern
  | _ => none

/-- `FAULT_CAUSE != 0` (rule R39). -/
def State.faulted (s : State) : Bool := s.faultCause != .noFault

/-- TAKING A FAULT, `raise Fault(cause, info)` (rules R14, R276): the fault record is written and nothing else; `PC`
keeps the address of the faulting instruction. There is no handler to go to (rule R284). -/
def State.raiseFault (s : State) (cause : FaultCause) (info : Word) : State :=
  { s with faultCause := cause, faultInfo := info }

/-- The range check of a fetch (rule R66): `PC` or `PC + 1` lies outside `MEM`. -/
def State.fetchOutOfRange (s : State) : Bool := decide (s.pc.toNat > 0xFFE)

/-- `raise Fault(FetchOutOfRange, PC)` (rules R66, R278). -/
def State.raiseFetchFault (s : State) : State := s.raiseFault .fetchOutOfRange s.pc

/-- The only exit from a fault, `reset()` (rules R285, R311): every part at its reset value but `MODE`, `FONT` and
`RNG_STATE`, which it leaves as they are (rule R312). -/
def State.resetCore (s : State) : State := State.afterReset s.mode s.font s.rng

/-- Step 4 of the cycle (rule R120): `if DT > 0: DT <- DT - 1`. -/
def State.tickDelay (s : State) : State := if s.dt = 0 then s else { s with dt := s.dt - 1 }

/-- Step 5 of the cycle (rule R120): `if ST > 0: ST <- ST - 1`, and `TONE <- 1` when that makes it 0. -/
def State.tickSound (s : State) : State :=
  if s.st = 0 then s else { s with st := s.st - 1, tone := s.tone || s.st - 1 == 0 }

/-- What follows step 3 (rules R120, R125): nothing if a fault was raised, else the two timer steps. -/
def State.endCycle (s : State) : State := if s.faulted then s else s.tickDelay.tickSound

end Sys2Proof.Machine
end

