-- ==== Sys2Proof/Machine/Operands.lean ====
section
/-!
DEFINITION. The operand forms (rules R92, R93): immediates widened without sign, the register a shift reads by
mode (rules R171, R172), the effective target of BNNN (rule R143), the glyph address of FX29 (rule R192), the digits of
FX33 (rule R193), the range check of the data accesses (rule R67), and the mode's update of `I` (rules R194, R195).
-/

namespace Sys2Proof.Machine

/-- NNN zero-extended to 16 bits (rule R93). -/
def addressOf (nnn : BitVec 12) : Word := nnn.setWidth 16

/-- The target of BNNN (rule R143): `NNN + V[0]`, not masked to 12 bits. -/
def State.offsetTarget (s : State) (nnn : BitVec 12) : Word := addressOf nnn + (s.reg 0).setWidth 16

/-- The source of 8XY6 and 8XYE (rules R171, R172): Vy in Legacy mode, Vx in the two others. -/
def State.shiftSource (s : State) (x y : Reg) : Byte :=
  match s.mode with
  | .legacy => s.reg y
  | .intermediate | .modern => s.reg x

/-- The address FX29 computes (rule R192): `0x050 + 5 * V[X]`, V[X] not masked. -/
def glyphAddress (digit : Byte) : Word := BitVec.ofNat 16 (Config.fontBase + 5 * digit.toNat)

/-- The three bytes FX33 stores (rule R193): hundreds, tens, ones. -/
def bcdDigits (b : Byte) : List Byte :=
  [BitVec.ofNat 8 (b.toNat / 100), BitVec.ofNat 8 (b.toNat / 10 % 10), BitVec.ofNat 8 (b.toNat % 10)]

/-- The check of rule R67 on an access to `MEM[I + k]`, k in 0..m-1: `m > 0 and I + m - 1 > 0xFFF`, with `I` at its
full 16-bit value and the sum not reduced. -/
def State.outOfRange (s : State) (m : Nat) : Bool := decide (m > 0) && decide (s.i.toNat + m - 1 > 0xFFF)

/-- Run an access to `m` bytes at `I`, or take `DataOutOfRange` before anything is written (rules R67, R279). -/
def State.withDataRange (s : State) (m : Nat) (access : State) : Result :=
  .next (if s.outOfRange m then s.raiseFault .dataOutOfRange s.i else access)

/-- The mode's side effect of FX55 and FX65 (rules R194, R195): in Legacy and Intermediate mode `I` moves past the
`count` registers transferred, in Modern mode it stays. -/
def State.blockIndex (s : State) (count : Nat) : State :=
  match s.mode with
  | .legacy | .intermediate => s.setIndex (s.i + BitVec.ofNat 16 count)
  | .modern => s

end Sys2Proof.Machine
end

