-- ==== Sys2Proof/Machine/Alu.lean ====
section
/-!
DEFINITION. Register set, move, logic, add, subtract, shift (rules R160 to R172). Arithmetic is unsigned and wraps
mod 256; all operands are read from the state at the start, and a flag is written after the result (rules R15, R24).
-/

namespace Sys2Proof.Machine

/-- An instruction that writes Vx and no flag, then advances (rules R161 to R167). -/
def State.writeResult (s : State) (x : Reg) (b : Byte) : Result := .next (s.setReg x b).advance

/-- An instruction that writes Vx, then its flag to VF, then advances (rules R168 to R172). -/
def State.writeResultFlag (s : State) (x : Reg) (b : Byte) (f : Bool) : Result :=
  .next ((s.setReg x b).setFlag f).advance

/-- LD Vx, NN (rule R161). -/
def execLdImm (x : Reg) (nn : Byte) (s : State) : Result := s.writeResult x nn

/-- ADD Vx, NN (rule R162): VF is not a flag here. -/
def execAddImm (x : Reg) (nn : Byte) (s : State) : Result := s.writeResult x (s.reg x + nn)

/-- LD Vx, Vy (rule R163). -/
def execLdReg (x y : Reg) (s : State) : Result := s.writeResult x (s.reg y)

/-- OR Vx, Vy (rules R164, R165). -/
def execOrReg (x y : Reg) (s : State) : Result := s.writeResult x (s.reg x ||| s.reg y)

/-- AND Vx, Vy (rules R164, R166). -/
def execAndReg (x y : Reg) (s : State) : Result := s.writeResult x (s.reg x &&& s.reg y)

/-- XOR Vx, Vy (rules R164, R167). -/
def execXorReg (x y : Reg) (s : State) : Result := s.writeResult x (s.reg x ^^^ s.reg y)

/-- ADD Vx, Vy (rule R168). -/
def execAddReg (x y : Reg) (s : State) : Result :=
  s.writeResultFlag x (s.reg x + s.reg y) (carryOut (s.reg x) (s.reg y))

/-- SUB Vx, Vy (rule R169): minuend Vx, subtrahend Vy. -/
def execSubReg (x y : Reg) (s : State) : Result :=
  s.writeResultFlag x (s.reg x - s.reg y) (noBorrow (s.reg x) (s.reg y))

/-- SUBN Vx, Vy (rule R170): minuend Vy, subtrahend Vx. -/
def execSubnReg (x y : Reg) (s : State) : Result :=
  s.writeResultFlag x (s.reg y - s.reg x) (noBorrow (s.reg y) (s.reg x))

/-- SHR Vx, Vy (rule R171). -/
def execShr (x y : Reg) (s : State) : Result :=
  s.writeResultFlag x (s.shiftSource x y >>> 1) (bitOutRight (s.shiftSource x y))

/-- SHL Vx, Vy (rule R172). -/
def execShl (x y : Reg) (s : State) : Result :=
  s.writeResultFlag x (s.shiftSource x y <<< 1) (bitOutLeft (s.shiftSource x y))

end Sys2Proof.Machine
end

