-- ==== Sys2Proof/Machine/ControlFlow.lean ====
section
/-!
DEFINITION. Control transfer: 1NNN, BNNN, 2NNN, 00EE and the register and immediate skips (rules R140 to R147).
-/

namespace Sys2Proof.Machine

/-- JP NNN (rule R140). -/
def execJp (nnn : BitVec 12) (s : State) : Result := .next (s.setPc (addressOf nnn))

/-- JP V0, NNN (rule R143). -/
def execJpV0 (nnn : BitVec 12) (s : State) : Result := .next (s.setPc (s.offsetTarget nnn))

/-- CALL NNN (rules R142, R280): pushes the address of this CALL itself. -/
def execCall (nnn : BitVec 12) (s : State) : Result :=
  match s.push? s.pc with
  | some t => .next (t.setPc (addressOf nnn))
  | none => .next (s.raiseFault .stackOverflow s.pc)

/-- RET (rules R141, R281): the popped value plus 2. -/
def execRet (s : State) : Result :=
  match s.pop? with
  | some (w, t) => .next (t.setPc (w + 2))
  | none => .next (s.raiseFault .stackUnderflow s.pc)

/-- SE Vx, NN (rule R144). -/
def execSeImm (x : Reg) (nn : Byte) (s : State) : Result := .next (s.skipIf (s.reg x == nn))

/-- SNE Vx, NN (rule R145). -/
def execSneImm (x : Reg) (nn : Byte) (s : State) : Result := .next (s.skipIf (s.reg x != nn))

/-- SE Vx, Vy (rule R146). -/
def execSeReg (x y : Reg) (s : State) : Result := .next (s.skipIf (s.reg x == s.reg y))

/-- SNE Vx, Vy (rule R147). -/
def execSneReg (x y : Reg) (s : State) : Result := .next (s.skipIf (s.reg x != s.reg y))

end Sys2Proof.Machine
end

