-- ==== Sys2Proof/Machine/Draw.lean ====
section
/-!
DEFINITION. The display instructions: 00E0 and DXYN (rules R210 to R214).
-/

namespace Sys2Proof.Machine

/-- CLS (rule R210). -/
def execCls (s : State) : Result := .next (s.setDisplay Framebuffer.clear).advance

/-- The cells DXYN targets in a state: coordinates the full 8-bit values of Vx and Vy, rows `MEM[I..I+N-1]` (rule R211). -/
def State.drawTargets (s : State) (x y : Reg) (n : BitVec 4) : List Nat :=
  spriteCells (s.reg x).toNat (s.reg y).toNat 0 (s.readBytes s.i.toNat n.toNat)

/-- DRW Vx, Vy, N (rule R211): Vx and Vy are read before VF is cleared; VF ends as the collision bit. -/
def execDrw (x y : Reg) (n : BitVec 4) (s : State) : Result :=
  let drawn := drawCells s.fb false (s.drawTargets x y n)
  s.withDataRange n.toNat ((s.setDisplay drawn.1).setFlag drawn.2).advance

end Sys2Proof.Machine
end

