-- ==== Sys2Proof/Machine/IndexMemory.lean ====
section
/-!
DEFINITION. The index register and memory instructions: ANNN, FX1E, FX29, FX33, FX55, FX65 (rules R190 to R195).
-/

namespace Sys2Proof.Machine

/-- LD I, NNN (rule R190). -/
def execLdI (nnn : BitVec 12) (s : State) : Result := .next (s.setIndex (addressOf nnn)).advance

/-- ADD I, Vx (rule R191): the sum is kept mod 2^16, never clamped; the flag is taken from the unreduced sum. -/
def execAddI (x : Reg) (s : State) : Result :=
  .next ((s.setIndex (s.i + (s.reg x).setWidth 16)).setFlag (indexOverflow s.i (s.reg x))).advance

/-- LD F, Vx (rule R192). -/
def execLdF (x : Reg) (s : State) : Result := .next (s.setIndex (glyphAddress (s.reg x))).advance

/-- LD B, Vx (rule R193). -/
def execLdB (x : Reg) (s : State) : Result :=
  s.withDataRange 3 (s.writeBytes s.i.toNat (bcdDigits (s.reg x))).advance

/-- LD [I], Vx (rule R194). -/
def execStoreRegs (x : Reg) (s : State) : Result :=
  s.withDataRange (x.val + 1) ((s.writeBytes s.i.toNat (s.regsUpTo x)).blockIndex (x.val + 1)).advance

/-- LD Vx, [I] (rule R195). -/
def execLoadRegs (x : Reg) (s : State) : Result :=
  s.withDataRange (x.val + 1) ((s.setRegsFrom (s.readBytes s.i.toNat (x.val + 1))).blockIndex (x.val + 1)).advance

end Sys2Proof.Machine
end

