-- ==== Sys2Proof/Machine/Keypad.lean ====
section
/-!
DEFINITION. The key bank instructions: EX9E, EXA1, FX0A (rules R250 to R252).
-/

namespace Sys2Proof.Machine

/-- A skip on the key numbered by Vx, or `KeyIndexOutOfRange` when that is above 15 (rules R250, R251, R282). -/
def State.skipOnKey (s : State) (x : Reg) (whenDown : Bool) : Result :=
  if (s.reg x).toNat > 15 then .next (s.raiseFault .keyIndexOutOfRange ((s.reg x).setWidth 16))
  else .next (s.skipIf (s.keyDown (s.reg x).toNat == whenDown))

/-- SKP Vx (rule R250). -/
def execSkp (x : Reg) (s : State) : Result := s.skipOnKey x true

/-- SKNP Vx (rule R251). -/
def execSknp (x : Reg) (s : State) : Result := s.skipOnKey x false

/-- LD Vx, K (rule R252): with no key pressed nothing changes, so the instruction runs again in the next cycle. -/
def execLdVxK (x : Reg) (s : State) : Result :=
  match selectKey s.pressedKeys with
  | none => .next s
  | some k => .next (s.setReg x (BitVec.ofNat 8 k.val)).advance

end Sys2Proof.Machine
end

