-- ==== Sys2Proof/Machine/TimersRandom.lean ====
section
/-!
DEFINITION. Timer access and the random byte: FX07, FX15, FX18, CXNN (rules R230 to R236).
-/

namespace Sys2Proof.Machine

/-- LD Vx, DT (rule R230). -/
def execLdVxDt (x : Reg) (s : State) : Result := .next (s.setReg x s.dt).advance

/-- LD DT, Vx (rule R231). -/
def execLdDtVx (x : Reg) (s : State) : Result := .next (s.setDelay (s.reg x)).advance

/-- LD ST, Vx (rule R232). -/
def execLdStVx (x : Reg) (s : State) : Result := .next (s.setSound (s.reg x)).advance

/-- RND Vx, NN (rule R235): one draw, masked. -/
def execRnd (x : Reg) (nn : Byte) (s : State) : Result :=
  .next ((s.setRng s.rng.next.2).setReg x (s.rng.next.1 &&& nn)).advance

end Sys2Proof.Machine
end

