-- ==== Sys2Proof/Machine/Unknown.lean ====
section
/-!
DEFINITION. The words with no handler: SYS and the unknown opcodes (rules R128, R129, R271). They complete.
-/

namespace Sys2Proof.Machine

/-- An unknown opcode (rule R128): signal it and advance by 2. -/
def execUnknown (w : Word) (s : State) : Result := .next (s.signalUnknown w).advance

/-- SYS NNN (rule R129): rule R128 applies word for word to the word `0NNN`. -/
def execSys (nnn : BitVec 12) (s : State) : Result := .next (s.signalUnknown (wordNNN 0x0 nnn)).advance

end Sys2Proof.Machine
end

