-- ==== Sys2Proof/Machine/Step.lean ====
section
/-!
DEFINITION. One `cycle()` (rule R120): freeze when faulted, fetch, decode, execute, timers.
-/

namespace Sys2Proof.Machine

/-- One cycle (rule R120). Step 0: a faulted core changes nothing (rule R126). Step 1: `PC > 0xFFE` takes
`FetchOutOfRange` (rule R66). Steps 2 to 5: decode, execute, and the timers unless a fault was raised. -/
def step (s : State) : Host.Outcome State Fault Refusal :=
  if s.faulted then .next s
  else if s.fetchOutOfRange then .next s.raiseFetchFault
  else
    match exec (decodeWord s.fetchWord) s with
    | .next t => .next t.endCycle
    | .fault f => .fault f
    | .refused r => .refused r

/-- A state that fetches: the fault record cleared if there is one, and `PC` at the reset entry if it is above 0xFFE. -/
def State.readyToFetch (s : State) : State :=
  let t := if s.faulted then s.raiseFault .noFault 0 else s
  if t.fetchOutOfRange then t.setPc 0x200 else t

/-- The state with a word stored where `step` fetches next, its bits numbered as spec/opcode_table.json numbers them.
In a state that can fetch, only those two bytes change. -/
def State.withFetchWord (s : State) (nbits w : Nat) : State :=
  s.readyToFetch.writeBytes s.readyToFetch.pc.toNat (wordBytes (tableWord nbits w))

end Sys2Proof.Machine
end

