-- ==== Sys2Proof/Machine/Driver.lean ====
section
/-!
DEFINITION. The driver's side of the interface (rules R10, R11, R272, R295 to R299, R310 to R317): the atomic
operations other than `cycle()`, which is `step`, and the read-only views.
-/

namespace Sys2Proof.Machine

/-- The seed of the random source (rules R41, R310): a number (production use), or an injected deterministic
sequence (tests). Log entry 1. -/
inductive Seed where
  | value (n : Nat)
  | sequence (bytes : List Byte)
  deriving DecidableEq, Repr

/-- `RNG_STATE` as `construct` makes it from the seed (rules R236, R310). DESIGN CHOICE, log entry 20, unsafe: the spec
gives no seed format, and an injected sequence carries the numeric seed 0, from which the free bytes follow once the
sequence has run out. -/
def RngState.ofSeed : Seed → RngState
  | .value n => { seed := n, drawn := 0, injected := [] }
  | .sequence bytes => { seed := 0, drawn := 0, injected := bytes }

/-- `construct(MODE, seed)` with the configuration `FONT` (rules R9, R310): fixes the mode and the font, seeds the
random source, then resets. -/
def construct (mode : Mode) (font : Vector Byte 80) (seed : Seed) : State :=
  (State.afterReset mode font (RngState.ofSeed seed)).resetCore

/-- The results of a refused load (rules R272, R316). `RomUnreadable` is outside the hardware. -/
inductive LoadError where
  | romEmpty
  | romTooLarge
  deriving DecidableEq, Repr

/-- `load_program(bytes)` (rules R316, R317). -/
def State.loadProgram (s : State) (bytes : List Byte) : Except LoadError State :=
  if bytes.length = 0 then .error .romEmpty
  else if bytes.length > Config.maxProgramSize then .error .romTooLarge
  else .ok (s.writeBytes Config.programBase bytes)

/-- `set_key(k, pressed)` (rule R295). -/
def State.setKey (s : State) (k : Key) (pressed : Bool) : State := { s with keys := s.keys.set k pressed }

/-- `clear_redraw()` (rule R296). -/
def State.clearRedraw (s : State) : State := { s with redraw := false }

/-- `clear_tone()` (rule R297). -/
def State.clearTone (s : State) : State := { s with tone := false }

/-- `clear_unknown()` (rule R298): `UNK_WORD` is kept. -/
def State.clearUnknown (s : State) : State := { s with unk := false }

/-- The operations of rule R10 on a constructed core. -/
inductive DriverOp where
  | reset
  | loadProgram (bytes : List Byte)
  | cycle
  | setKey (k : Key) (pressed : Bool)
  | clearRedraw
  | clearTone
  | clearUnknown
  deriving DecidableEq, Repr

/-- One operation of the interface (rule R10): atomic, never overlapping another. A refused load changes nothing
(rule R316, decision D21). -/
def DriverOp.apply (op : DriverOp) (s : State) : Result :=
  match op with
  | .reset => .next s.resetCore
  | .loadProgram bytes => .next (match s.loadProgram bytes with | .ok t => t | .error _ => s)
  | .cycle => step s
  | .setKey k pressed => .next (s.setKey k pressed)
  | .clearRedraw => .next s.clearRedraw
  | .clearTone => .next s.clearTone
  | .clearUnknown => .next s.clearUnknown

/-- A sequence of operations, stopping where one stops. -/
def applyAll : List DriverOp → State → Result
  | [], s => .next s
  | op :: rest, s =>
    match op.apply s with
    | .next t => applyAll rest t
    | .fault f => .fault f
    | .refused r => .refused r

/-- `FB[x + 64*y]` as the driver reads it (rules R33, R299). -/
def State.cellAt (s : State) (x : Fin 64) (y : Fin 32) : Bool := s.fb.cell (x.val + 64 * y.val)

/-- The renderer's view of a cell (rules R33, R215): all bits one for a set cell, zero for an unset one, at the open
width `FB_CELL_ONES` (log entry 3). -/
def State.viewCell (s : State) (x : Fin 64) (y : Fin 32) : BitVec Config.fbCellOnes :=
  if s.cellAt x y then BitVec.allOnes _ else 0

end Sys2Proof.Machine
end

