-- ==== Sys2Proof/Safety.lean ====
section
/-!
DEFINITION. What the claims are stated in: a safe run (no fault recorded, rule R276), the end of a run (rule
R326), the invariant of every step, and the frame of an instruction.
-/

namespace Sys2Proof.Machine

/-- A core that has not gone wrong (rule R276). -/
def State.Safe (s : State) : Prop := s.faultCause = .noFault

/-- `n` cycles from a state, none of which records a fault. -/
def SafeFor : Nat → State → Prop
  | 0, s => s.Safe
  | n + 1, s => s.Safe ∧ ∃ t, step s = .next t ∧ SafeFor n t

/-- "The program has ended" (rule R326): no fault, and the word at `PC` is `1NNN` with NNN = `PC`. -/
def State.Ended (s : State) : Prop :=
  s.Safe ∧ s.pc.toNat ≤ 0xFFE ∧ ∃ nnn, decodeWord s.fetchWord = .jp nnn ∧ addressOf nnn = s.pc

/-- What the fault record says of the rest of the state (rules R39, R277): with no fault the information is 0, and a
frozen core still holds the cause of its fault. -/
def State.FaultRecordOk (s : State) : Prop :=
  match s.faultCause with
  | .noFault => s.faultInfo = 0
  | .fetchOutOfRange => s.faultInfo = s.pc ∧ s.pc.toNat > 0xFFE
  | .dataOutOfRange => s.faultInfo = s.i ∧ s.i.toNat + 15 > 0xFFF
  | .stackOverflow => s.faultInfo = s.pc ∧ s.sp = 16
  | .stackUnderflow => s.faultInfo = s.pc ∧ s.sp = 0
  | .keyIndexOutOfRange => ∃ x, s.faultInfo = (s.reg x).setWidth 16 ∧ (s.reg x).toNat > 15

/-- `UNK_WORD` is a word with no handler (rule R38): one of rule R97. -/
def State.UnknownWordOk (s : State) : Prop :=
  noRow s.unkWord = true ∨ ((fieldFamily s.unkWord) = 0 ∧ s.unkWord ≠ 0x00E0#16 ∧ s.unkWord ≠ 0x00EE#16)

/-- The invariant of the machine: memory in its canonical form, a fault record that tells the truth, and an unknown
word that is one. -/
structure State.Inv (s : State) : Prop where
  memory : Memory.wf s.font s.mem = true
  record : s.FaultRecordOk
  word   : s.UnknownWordOk

/-- What an instruction may change. The fields not listed (keys, mode, font, fault record) no completing instruction
changes. -/
structure Touches where
  regs    : List Reg := []
  bytes   : List Nat := []
  index   : Bool := false
  pc      : Bool := true
  stack   : Bool := false
  display : Bool := false
  delay   : Bool := false
  sound   : Bool := false
  signal  : Bool := false
  random  : Bool := false
  deriving DecidableEq, Repr

/-- The frame: from `s` to `t` nothing changed but what `w` lists. `stack` covers `SP` and `STACK`, `display` covers
`FB` and `REDRAW`, `signal` covers `UNK` and `UNK_WORD`. -/
structure Frame (w : Touches) (s t : State) : Prop where
  regs    : ∀ r, r ∉ w.regs → t.reg r = s.reg r
  bytes   : ∀ a, a ∉ w.bytes → t.readByte a = s.readByte a
  index   : w.index = false → t.i = s.i
  pc      : w.pc = false → t.pc = s.pc
  stack   : w.stack = false → t.sp = s.sp ∧ t.stack = s.stack
  display : w.display = false → t.fb = s.fb ∧ t.redraw = s.redraw
  delay   : w.delay = false → t.dt = s.dt
  sound   : w.sound = false → t.st = s.st
  signal  : w.signal = false → t.unk = s.unk ∧ t.unkWord = s.unkWord
  random  : w.random = false → t.rng = s.rng
  tone    : t.tone = s.tone
  keys    : t.keys = s.keys
  fault   : t.faultCause = s.faultCause ∧ t.faultInfo = s.faultInfo
  config  : t.mode = s.mode ∧ t.font = s.font

/-- What each instruction may change when it raises no fault, from the tables of rules R20 and R22. The program counter
may always change. -/
def touchesOf (i : Instr) (s : State) : Touches :=
  match i with
  | .cls => { display := true }
  | .ret => { stack := true }
  | .sys _ => { signal := true }
  | .jp _ => {}
  | .call _ => { stack := true }
  | .seImm _ _ => {}
  | .sneImm _ _ => {}
  | .seReg _ _ => {}
  | .ldImm x _ => { regs := [x] }
  | .addImm x _ => { regs := [x] }
  | .ldReg x _ => { regs := [x] }
  | .orReg x _ => { regs := [x] }
  | .andReg x _ => { regs := [x] }
  | .xorReg x _ => { regs := [x] }
  | .addReg x _ => { regs := [x, vf] }
  | .subReg x _ => { regs := [x, vf] }
  | .shr x _ => { regs := [x, vf] }
  | .subnReg x _ => { regs := [x, vf] }
  | .shl x _ => { regs := [x, vf] }
  | .sneReg _ _ => {}
  | .ldI _ => { index := true }
  | .jpV0 _ => {}
  | .rnd x _ => { regs := [x], random := true }
  | .drw _ _ _ => { regs := [vf], display := true }
  | .skp _ => {}
  | .sknp _ => {}
  | .ldVxDt x => { regs := [x] }
  | .ldVxK x => { regs := [x] }
  | .ldDtVx _ => { delay := true }
  | .ldStVx _ => { sound := true }
  | .addI _ => { regs := [vf], index := true }
  | .ldF _ => { index := true }
  | .ldB _ => { bytes := [s.i.toNat, s.i.toNat + 1, s.i.toNat + 2] }
  | .storeRegs x => { bytes := (List.range (x.val + 1)).map (s.i.toNat + ·), index := s.mode != .modern }
  | .loadRegs x => { regs := (List.finRange 16).filter (· ≤ x), index := s.mode != .modern }
  | .unknown _ => { signal := true }

/-- The fault each instruction raises in a state, with what `FAULT_INFO` then holds, from the table of rule R277; none
where it raises none. -/
def expectedFault (i : Instr) (s : State) : Option (FaultCause × Word) :=
  match i with
  | .call _ => if s.sp.val = 16 then some (.stackOverflow, s.pc) else none
  | .ret => if s.sp.val = 0 then some (.stackUnderflow, s.pc) else none
  | .drw _ _ n => if n.toNat > 0 ∧ s.i.toNat + n.toNat - 1 > 0xFFF then some (.dataOutOfRange, s.i) else none
  | .ldB _ => if s.i.toNat + 2 > 0xFFF then some (.dataOutOfRange, s.i) else none
  | .storeRegs x => if s.i.toNat + x.val > 0xFFF then some (.dataOutOfRange, s.i) else none
  | .loadRegs x => if s.i.toNat + x.val > 0xFFF then some (.dataOutOfRange, s.i) else none
  | .skp x => if (s.reg x).toNat > 15 then some (.keyIndexOutOfRange, (s.reg x).setWidth 16) else none
  | .sknp x => if (s.reg x).toNat > 15 then some (.keyIndexOutOfRange, (s.reg x).setWidth 16) else none
  | .cls | .sys _ | .jp _ | .seImm _ _ | .sneImm _ _ | .seReg _ _ | .ldImm _ _ | .addImm _ _ | .ldReg _ _
  | .orReg _ _ | .andReg _ _ | .xorReg _ _ | .addReg _ _ | .subReg _ _ | .shr _ _ | .subnReg _ _ | .shl _ _
  | .sneReg _ _ | .ldI _ | .jpV0 _ | .rnd _ _ | .ldVxDt _ | .ldVxK _ | .ldDtVx _ | .ldStVx _ | .addI _ | .ldF _
  | .unknown _ => none

/-- The instructions that write VF as a flag, exactly those of rule R23. -/
def setsFlag : Instr → Bool
  | .addReg _ _ | .subReg _ _ | .subnReg _ _ | .shr _ _ | .shl _ _ | .addI _ | .drw _ _ _ => true
  | .cls | .ret | .sys _ | .jp _ | .call _ | .seImm _ _ | .sneImm _ _ | .seReg _ _ | .ldImm _ _ | .addImm _ _
  | .ldReg _ _ | .orReg _ _ | .andReg _ _ | .xorReg _ _ | .sneReg _ _ | .ldI _ | .jpV0 _ | .rnd _ _ | .skp _ | .sknp _
  | .ldVxDt _ | .ldVxK _ | .ldDtVx _ | .ldStVx _ | .ldF _ | .ldB _ | .storeRegs _ | .loadRegs _ | .unknown _ => false

/-- The instructions `MODE` governs, exactly the four of rule R40. -/
def dependsOnMode : Instr → Bool
  | .shr _ _ | .shl _ _ | .storeRegs _ | .loadRegs _ => true
  | .cls | .ret | .sys _ | .jp _ | .call _ | .seImm _ _ | .sneImm _ _ | .seReg _ _ | .ldImm _ _ | .addImm _ _
  | .ldReg _ _ | .orReg _ _ | .andReg _ _ | .xorReg _ _ | .addReg _ _ | .subReg _ _ | .subnReg _ _ | .sneReg _ _
  | .ldI _ | .jpV0 _ | .rnd _ _ | .drw _ _ _ | .skp _ | .sknp _ | .ldVxDt _ | .ldVxK _ | .ldDtVx _ | .ldStVx _
  | .addI _ | .ldF _ | .ldB _ | .unknown _ => false

/-- Cell `k` is targeted by a set bit of the sprite DXYN draws (rules R211, R212): `b[7 - col] = 1` in row `row`, and
`k = ((x + col) + (y + row) * 64) mod 2048`. -/
def State.SpriteHits (s : State) (x y : Reg) (n : BitVec 4) (k : Nat) : Prop :=
  ∃ row col, row < n.toNat ∧ col < 8 ∧ (s.readByte (s.i.toNat + row)).getLsbD (7 - col) = true ∧
    k = (((s.reg x).toNat + col) + ((s.reg y).toNat + row) * 64) % 2048

/-- The byte of draw number `k`, counted from 0, from a state of the random source (rule R236). -/
def drawNth : Nat → RngState → Byte
  | 0, r => r.next.1
  | k + 1, r => drawNth k r.next.2

end Sys2Proof.Machine
end

