-- ==== Sys2Proof/Certificates/Slice0/Obligations.lean ====
section
/-!
DEFINITION. The statements for the provers. Each docstring names the rule of spec/ it formalises. Arithmetic is written
on natural numbers, as the rules write it (rule R12), not with the model's own operations. `Frame w s t` says that from
`s` to `t` nothing changed but what `w` lists.
-/

open Sys2Proof Sys2Proof.Machine

/-! ### Reset and construction -/

/-- Rules R42, R311, R312: what `reset()` leaves, from every state. `State.reset` is such a state. -/
def Obligations.ResetLeavesTheStatedValues : Prop :=
  (∀ s : State,
    (∀ r, s.resetCore.reg r = 0) ∧ s.resetCore.i = 0 ∧ s.resetCore.pc.toNat = 0x200 ∧ s.resetCore.sp = 0 ∧
    (∀ j : Fin 16, s.resetCore.stack[j] = 0) ∧
    (∀ j : Fin 80, s.resetCore.readByte (0x050 + j.val) = s.font[j]) ∧
    (∀ a, a < 0x050 ∨ 0x09F < a → s.resetCore.readByte a = 0) ∧
    (∀ k, k < 2048 → s.resetCore.fb.cell k = false) ∧ (∀ k : Key, s.resetCore.keys[k] = false) ∧
    s.resetCore.dt = 0 ∧ s.resetCore.st = 0 ∧ s.resetCore.redraw = false ∧ s.resetCore.tone = false ∧
    s.resetCore.unk = false ∧ s.resetCore.unkWord = 0 ∧
    s.resetCore.faultCause = .noFault ∧ s.resetCore.faultInfo = 0 ∧
    s.resetCore.mode = s.mode ∧ s.resetCore.rng = s.rng ∧ s.resetCore.font = s.font) ∧
  State.reset.resetCore = State.reset

/-- Rule R310: `construct(MODE, seed)` fixes the mode, seeds the random source, then resets. Two clauses are the model's
choice: the font is an argument of `construct` (log entry 12; rules R9, R20 make `FONT` configuration fixed at
construction), and the form of a seed and of the source's state is `RngState.ofSeed` (log entries 1 and 20). -/
def Obligations.ConstructFixesModeAndSeedThenResets : Prop :=
  ∀ (m : Mode) (font : Vector Byte 80) (seed : Seed),
    (construct m font seed).mode = m ∧ (construct m font seed).font = font ∧
    (construct m font seed).rng = RngState.ofSeed seed ∧
    (construct m font seed).resetCore = construct m font seed

/-! ### Decoding -/

/-- Rules R94, R96: decoding the word of a well-formed instruction gives it back, every operand at every value. -/
def Obligations.DecodeUndoesEncode : Prop :=
  ∀ i : Instr, WellFormed i = true → decodeWord (encode i) = i

/-- Rules R94, R97: every word decodes to a well-formed instruction that encodes to that very word. -/
def Obligations.EncodeUndoesDecode : Prop :=
  ∀ w : Word, WellFormed (decodeWord w) = true ∧ encode (decodeWord w) = w

/-- Rule R99: the decoder takes the first row of the opcode table with `(op & mask) == match`. -/
def Obligations.DecodeTakesTheFirstMatchingRow : Prop :=
  ∀ w : Word, rowOf (decodeWord w) = firstMatch w

/-- Rule R97: the words with no handler, by arithmetic on the word. -/
def Obligations.WordsWithoutHandler : Prop :=
  ∀ w : Word,
    ((∃ nnn, decodeWord w = .sys nnn) ∨ decodeWord w = .unknown w) ↔
      (w.toNat / 0x1000 = 0x0 ∧ w.toNat ≠ 0x00E0 ∧ w.toNat ≠ 0x00EE) ∨
      ((w.toNat / 0x1000 = 0x5 ∨ w.toNat / 0x1000 = 0x9) ∧ w.toNat % 0x10 ≠ 0) ∨
      (w.toNat / 0x1000 = 0x8 ∧ w.toNat % 0x10 ∈ [0x8, 0x9, 0xA, 0xB, 0xC, 0xD, 0xF]) ∨
      (w.toNat / 0x1000 = 0xE ∧ w.toNat % 0x100 ∉ [0x9E, 0xA1]) ∨
      (w.toNat / 0x1000 = 0xF ∧ w.toNat % 0x100 ∉ [0x07, 0x0A, 0x15, 0x18, 0x1E, 0x29, 0x33, 0x55, 0x65])

/-- Rules R91, R92, R96: words written out from the formats decode to the instruction they stand for. -/
def Obligations.WrittenOutWordsDecode : Prop :=
  decodeWord 0b0000_0000_1110_0000 = .cls ∧ decodeWord 0b0010_0011_0000_0001 = .call 0x301 ∧
  decodeWord 0b0110_1010_0000_0111 = .ldImm 10 0x07 ∧ decodeWord 0b1000_0001_0010_0101 = .subReg 1 2 ∧
  decodeWord 0b1010_0001_0010_0011 = .ldI 0x123 ∧ decodeWord 0b1101_0011_0100_0101 = .drw 3 4 5 ∧
  decodeWord 0b1110_0001_1010_0001 = .sknp 1 ∧ decodeWord 0b1111_0010_0101_0101 = .storeRegs 2 ∧
  decodeWord 0b0101_0001_0010_0001 = .unknown 0x5121 ∧ decodeWord 0b0000_0001_1110_0000 = .sys 0x1E0

/-! ### The cycle -/

/-- Rules R120, R125: when the two bytes at `PC` are the word of a well-formed instruction, a cycle is that
instruction's execution, then, unless it raised a fault, the two timer steps on the values it left. -/
def Obligations.StepRunsTheFetchedInstruction : Prop :=
  ∀ (i : Instr) (s t : State), WellFormed i = true → s.faultCause = .noFault → s.pc.toNat ≤ 0xFFE →
    (s.readByte s.pc.toNat).toNat * 0x100 + (s.readByte (s.pc.toNat + 1)).toNat = (encode i).toNat →
    exec i s = .next t →
    (t.faultCause ≠ .noFault → step s = .next t) ∧
    (t.faultCause = .noFault → step s = .next { t with
      dt := BitVec.ofNat 8 (t.dt.toNat - 1), st := BitVec.ofNat 8 (t.st.toNat - 1),
      tone := t.tone || decide (t.st.toNat = 1) })

/-- A word placed with `withFetchWord` is the instruction the next step runs, from every state; in a state that can
fetch, only its two bytes change. -/
def Obligations.StepRunsAPlacedWord : Prop :=
  ∀ (s : State) (w : Word),
    (∃ u, exec (decodeWord w) (s.withFetchWord 16 w.toNat) = .next u ∧
      step (s.withFetchWord 16 w.toNat) = .next u.endCycle) ∧
    (s.faultCause = .noFault → s.pc.toNat ≤ 0xFFE →
      Frame { bytes := [s.pc.toNat, s.pc.toNat + 1], pc := false } s (s.withFetchWord 16 w.toNat))

/-- Rule R66: a cycle with `PC > 0xFFE` raises `Fault(FetchOutOfRange, PC)` and does nothing else; a cycle with any
other `PC`, however low, raises no such fault. -/
def Obligations.FetchOutsideMemoryFaults : Prop :=
  ∀ s : State, s.faultCause = .noFault →
    (s.pc.toNat > 0xFFE → step s = .next { s with faultCause := .fetchOutOfRange, faultInfo := s.pc }) ∧
    (s.pc.toNat ≤ 0xFFE → ∃ t, step s = .next t ∧ t.faultCause ≠ .fetchOutOfRange)

/-- Rule R126: a cycle of a faulted core changes nothing. -/
def Obligations.FaultedCoreIsFrozen : Prop :=
  ∀ s : State, s.faultCause ≠ .noFault → step s = .next s

/-- Rule R331: a timer set and its decrement share a cycle, and writing 1 to `ST` raises `TONE` in that cycle. -/
def Obligations.TimerSetTicksInItsOwnCycle : Prop :=
  ∀ (s : State) (x : Reg), s.faultCause = .noFault → s.pc.toNat ≤ 0xFFE →
    (decodeWord s.fetchWord = .ldDtVx x →
      ∃ t, step s = .next t ∧ t.dt.toNat = (s.reg x).toNat - 1 ∧ t.st.toNat = s.st.toNat - 1) ∧
    (decodeWord s.fetchWord = .ldStVx x →
      ∃ t, step s = .next t ∧ t.st.toNat = (s.reg x).toNat - 1 ∧ t.dt.toNat = s.dt.toNat - 1 ∧
        (t.tone = true ↔ s.tone = true ∨ (s.reg x).toNat = 1))

/-! ### Control transfer -/

/-- Rule R140. -/
def Obligations.JumpSetsPc : Prop :=
  ∀ (nnn : BitVec 12) (s : State), ∃ t, exec (.jp nnn) s = .next t ∧ t.pc.toNat = nnn.toNat ∧ Frame {} s t

/-- Rule R143: the sum is not masked to 12 bits. -/
def Obligations.JumpWithOffsetAddsV0 : Prop :=
  ∀ (nnn : BitVec 12) (s : State), ∃ t, exec (.jpV0 nnn) s = .next t ∧
    t.pc.toNat = nnn.toNat + (s.reg 0).toNat ∧ Frame {} s t

/-- Rule R142: the push of the call's own address, or `StackOverflow` with 16 entries in use. -/
def Obligations.CallPushesItsOwnAddress : Prop :=
  ∀ (nnn : BitVec 12) (s : State),
    (s.sp.val < 16 → ∃ t, exec (.call nnn) s = .next t ∧ t.pc.toNat = nnn.toNat ∧ t.sp.val = s.sp.val + 1 ∧
      (∀ j : Fin 16, t.stack[j] = if j.val = s.sp.val then s.pc else s.stack[j]) ∧ Frame { stack := true } s t) ∧
    (s.sp.val = 16 → exec (.call nnn) s = .next { s with faultCause := .stackOverflow, faultInfo := s.pc })

/-- Rule R141: the pop, `PC` at the popped value plus 2, the entry kept; or `StackUnderflow` with none in use. -/
def Obligations.ReturnResumesAfterThePoppedCall : Prop :=
  ∀ s : State,
    (∀ j : Fin 16, s.sp.val = j.val + 1 → ∃ t, exec .ret s = .next t ∧ t.pc.toNat = (s.stack[j].toNat + 2) % 65536 ∧
      t.sp.val = j.val ∧ t.stack = s.stack ∧ Frame { stack := true } s t) ∧
    (s.sp.val = 0 → exec .ret s = .next { s with faultCause := .stackUnderflow, faultInfo := s.pc })

/-- Rules R144, R145. -/
def Obligations.SkipsComparingAnImmediate : Prop :=
  ∀ (x : Reg) (nn : Byte) (s : State),
    (∃ t, exec (.seImm x nn) s = .next t ∧ t.pc = (if s.reg x = nn then s.pc + 4 else s.pc + 2) ∧ Frame {} s t) ∧
    (∃ t, exec (.sneImm x nn) s = .next t ∧ t.pc = (if s.reg x = nn then s.pc + 2 else s.pc + 4) ∧ Frame {} s t)

/-- Rules R146, R147. -/
def Obligations.SkipsComparingRegisters : Prop :=
  ∀ (x y : Reg) (s : State),
    (∃ t, exec (.seReg x y) s = .next t ∧ t.pc = (if s.reg x = s.reg y then s.pc + 4 else s.pc + 2) ∧ Frame {} s t) ∧
    (∃ t, exec (.sneReg x y) s = .next t ∧ t.pc = (if s.reg x = s.reg y then s.pc + 2 else s.pc + 4) ∧ Frame {} s t)

/-- Rules R28, R141, R142: a return right after a call resumes after the call, with the stack as deep as before. -/
def Obligations.CallThenReturnResumesAfterTheCall : Prop :=
  ∀ (nnn : BitVec 12) (s : State), s.sp.val < 16 →
    ∃ t u, exec (.call nnn) s = .next t ∧ exec .ret t = .next u ∧ u.pc = s.pc + 2 ∧ u.sp = s.sp

/-! ### Registers and arithmetic -/

/-- Rule R161. -/
def Obligations.LoadImmediate : Prop :=
  ∀ (x : Reg) (nn : Byte) (s : State), ∃ t, exec (.ldImm x nn) s = .next t ∧ t.reg x = nn ∧ t.pc = s.pc + 2 ∧
    Frame { regs := [x] } s t

/-- Rule R162: VF is written only when X names it. -/
def Obligations.AddImmediateWrapsWithoutFlag : Prop :=
  ∀ (x : Reg) (nn : Byte) (s : State), ∃ t, exec (.addImm x nn) s = .next t ∧
    (t.reg x).toNat = ((s.reg x).toNat + nn.toNat) % 256 ∧ t.pc = s.pc + 2 ∧ Frame { regs := [x] } s t

/-- Rule R163. -/
def Obligations.MoveCopiesVy : Prop :=
  ∀ (x y : Reg) (s : State), ∃ t, exec (.ldReg x y) s = .next t ∧ t.reg x = s.reg y ∧ t.pc = s.pc + 2 ∧
    Frame { regs := [x] } s t

/-- Rules R164 to R167: bit by bit, VF written only when X names it. -/
def Obligations.LogicIsBitwiseAndLeavesVF : Prop :=
  ∀ (x y : Reg) (s : State),
    (∃ t, exec (.orReg x y) s = .next t ∧
      (∀ b, (t.reg x).getLsbD b = ((s.reg x).getLsbD b || (s.reg y).getLsbD b)) ∧ t.pc = s.pc + 2 ∧
      Frame { regs := [x] } s t) ∧
    (∃ t, exec (.andReg x y) s = .next t ∧
      (∀ b, (t.reg x).getLsbD b = ((s.reg x).getLsbD b && (s.reg y).getLsbD b)) ∧ t.pc = s.pc + 2 ∧
      Frame { regs := [x] } s t) ∧
    (∃ t, exec (.xorReg x y) s = .next t ∧
      (∀ b, (t.reg x).getLsbD b = ((s.reg x).getLsbD b != (s.reg y).getLsbD b)) ∧ t.pc = s.pc + 2 ∧
      Frame { regs := [x] } s t)

/-- Rule R168: the wrapped sum, the carry in VF, and the carry alone when X = F. -/
def Obligations.AddSetsCarry : Prop :=
  ∀ (x y : Reg) (s : State), ∃ t, exec (.addReg x y) s = .next t ∧
    (x ≠ vf → (t.reg x).toNat = ((s.reg x).toNat + (s.reg y).toNat) % 256) ∧
    t.reg vf = (if (s.reg x).toNat + (s.reg y).toNat > 255 then 1 else 0) ∧
    t.pc = s.pc + 2 ∧ Frame { regs := [x, vf] } s t

/-- Rules R169, R170: the wrapped difference in both directions, VF 0 on a borrow and else 1, the flag alone when
X = F. -/
def Obligations.SubtractSetsNoBorrow : Prop :=
  ∀ (x y : Reg) (s : State),
    (∃ t, exec (.subReg x y) s = .next t ∧
      (x ≠ vf → (t.reg x).toNat = ((s.reg x).toNat + 256 - (s.reg y).toNat) % 256) ∧
      t.reg vf = (if (s.reg y).toNat > (s.reg x).toNat then 0 else 1) ∧
      t.pc = s.pc + 2 ∧ Frame { regs := [x, vf] } s t) ∧
    (∃ t, exec (.subnReg x y) s = .next t ∧
      (x ≠ vf → (t.reg x).toNat = ((s.reg y).toNat + 256 - (s.reg x).toNat) % 256) ∧
      t.reg vf = (if (s.reg x).toNat > (s.reg y).toNat then 0 else 1) ∧
      t.pc = s.pc + 2 ∧ Frame { regs := [x, vf] } s t)

/-- Rules R171, R172: the source by mode, one place, the bit shifted out in VF, and it alone when X = F. -/
def Obligations.ShiftsByModeSetTheBitShiftedOut : Prop :=
  ∀ (x y : Reg) (s : State) (src : Nat),
    src = (if s.mode = .legacy then (s.reg y).toNat else (s.reg x).toNat) →
    (∃ t, exec (.shr x y) s = .next t ∧ (x ≠ vf → (t.reg x).toNat = src / 2) ∧ (t.reg vf).toNat = src % 2 ∧
      t.pc = s.pc + 2 ∧ Frame { regs := [x, vf] } s t) ∧
    (∃ t, exec (.shl x y) s = .next t ∧ (x ≠ vf → (t.reg x).toNat = src * 2 % 256) ∧ (t.reg vf).toNat = src / 128 ∧
      t.pc = s.pc + 2 ∧ Frame { regs := [x, vf] } s t)

/-! ### The index register and memory -/

/-- Rule R190. -/
def Obligations.LoadIndex : Prop :=
  ∀ (nnn : BitVec 12) (s : State), ∃ t, exec (.ldI nnn) s = .next t ∧ t.i.toNat = nnn.toNat ∧ t.pc = s.pc + 2 ∧
    Frame { index := true } s t

/-- Rule R191: the sum mod 2^16, never clamped; VF from the unreduced sum, also when X = F. -/
def Obligations.AddIndexKeepsSixteenBits : Prop :=
  ∀ (x : Reg) (s : State), ∃ t, exec (.addI x) s = .next t ∧
    t.i.toNat = (s.i.toNat + (s.reg x).toNat) % 65536 ∧
    t.reg vf = (if s.i.toNat + (s.reg x).toNat > 0x0FFF then 1 else 0) ∧
    t.pc = s.pc + 2 ∧ Frame { regs := [vf], index := true } s t

/-- Rule R192: Vx is not masked. -/
def Obligations.GlyphAddress : Prop :=
  ∀ (x : Reg) (s : State), ∃ t, exec (.ldF x) s = .next t ∧ t.i.toNat = 0x050 + 5 * (s.reg x).toNat ∧
    t.pc = s.pc + 2 ∧ Frame { index := true } s t

/-- Rule R193: three digits at `I`, `I + 1`, `I + 2`, from which the byte comes back; or `DataOutOfRange`. -/
def Obligations.BcdStoresThreeDigits : Prop :=
  ∀ (x : Reg) (s : State),
    (s.i.toNat + 2 ≤ 0xFFF → ∃ t, exec (.ldB x) s = .next t ∧
      (t.readByte s.i.toNat).toNat = (s.reg x).toNat / 100 ∧
      (t.readByte (s.i.toNat + 1)).toNat = (s.reg x).toNat / 10 % 10 ∧
      (t.readByte (s.i.toNat + 2)).toNat = (s.reg x).toNat % 10 ∧
      100 * (t.readByte s.i.toNat).toNat + 10 * (t.readByte (s.i.toNat + 1)).toNat +
        (t.readByte (s.i.toNat + 2)).toNat = (s.reg x).toNat ∧
      t.pc = s.pc + 2 ∧ Frame { bytes := [s.i.toNat, s.i.toNat + 1, s.i.toNat + 2] } s t) ∧
    (s.i.toNat + 2 > 0xFFF →
      exec (.ldB x) s = .next { s with faultCause := .dataOutOfRange, faultInfo := s.i })

/-- Rule R194: registers 0..X to the bytes from `I` on, the mode's update of `I`; or `DataOutOfRange`. -/
def Obligations.BlockStore : Prop :=
  ∀ (x : Reg) (s : State),
    (s.i.toNat + x.val ≤ 0xFFF → ∃ t, exec (.storeRegs x) s = .next t ∧
      (∀ r : Reg, r ≤ x → t.readByte (s.i.toNat + r.val) = s.reg r) ∧
      (s.mode = .legacy ∨ s.mode = .intermediate → t.i.toNat = (s.i.toNat + x.val + 1) % 65536) ∧
      (s.mode = .modern → t.i = s.i) ∧ t.pc = s.pc + 2 ∧
      Frame { bytes := (List.range (x.val + 1)).map (s.i.toNat + ·), index := true } s t) ∧
    (s.i.toNat + x.val > 0xFFF →
      exec (.storeRegs x) s = .next { s with faultCause := .dataOutOfRange, faultInfo := s.i })

/-- Rule R195: registers 0..X from the bytes from `I` on, the mode's update of `I`; or `DataOutOfRange`. -/
def Obligations.BlockLoad : Prop :=
  ∀ (x : Reg) (s : State),
    (s.i.toNat + x.val ≤ 0xFFF → ∃ t, exec (.loadRegs x) s = .next t ∧
      (∀ r : Reg, r ≤ x → t.reg r = s.readByte (s.i.toNat + r.val)) ∧
      (s.mode = .legacy ∨ s.mode = .intermediate → t.i.toNat = (s.i.toNat + x.val + 1) % 65536) ∧
      (s.mode = .modern → t.i = s.i) ∧ t.pc = s.pc + 2 ∧
      Frame { regs := (List.finRange 16).filter (· ≤ x), index := true } s t) ∧
    (s.i.toNat + x.val > 0xFFF →
      exec (.loadRegs x) s = .next { s with faultCause := .dataOutOfRange, faultInfo := s.i })

/-- Rules R194, R195: a block load from where a block store stored gives the stored registers back, whatever the
registers hold by then. -/
def Obligations.BlockLoadUndoesBlockStore : Prop :=
  ∀ (x : Reg) (s : State), s.i.toNat + x.val ≤ 0xFFF → ∃ t, exec (.storeRegs x) s = .next t ∧
    ∀ u : State, (∀ a, u.readByte a = t.readByte a) → u.i = s.i →
      ∃ w, exec (.loadRegs x) u = .next w ∧ ∀ r : Reg, r ≤ x → w.reg r = s.reg r

/-! ### Display -/

/-- Rule R210. -/
def Obligations.ClearScreen : Prop :=
  ∀ s : State, ∃ t, exec .cls s = .next t ∧ (∀ k, k < 2048 → t.fb.cell k = false) ∧ t.redraw = true ∧
    t.pc = s.pc + 2 ∧ Frame { display := true } s t

/-- Rules R211, R212: exactly the cells targeted by a set bit are flipped, on the linear index; VF is 1 exactly when one
of them was set; or `DataOutOfRange` before anything is written. -/
def Obligations.DrawXorsTheTargetedCells : Prop :=
  ∀ (x y : Reg) (n : BitVec 4) (s : State),
    (n.toNat = 0 ∨ s.i.toNat + n.toNat - 1 ≤ 0xFFF → ∃ t, exec (.drw x y n) s = .next t ∧
      (∀ k, k < 2048 → (s.SpriteHits x y n k → t.fb.cell k = !s.fb.cell k) ∧
        (¬ s.SpriteHits x y n k → t.fb.cell k = s.fb.cell k)) ∧
      ((∃ k, k < 2048 ∧ s.SpriteHits x y n k ∧ s.fb.cell k = true) → t.reg vf = 1) ∧
      ((∀ k, k < 2048 → s.SpriteHits x y n k → s.fb.cell k = false) → t.reg vf = 0) ∧
      t.redraw = true ∧ t.pc = s.pc + 2 ∧ Frame { regs := [vf], display := true } s t) ∧
    (n.toNat > 0 ∧ s.i.toNat + n.toNat - 1 > 0xFFF →
      exec (.drw x y n) s = .next { s with faultCause := .dataOutOfRange, faultInfo := s.i })

/-- The source's law quoted in rule R214, from rule R211: drawing the identical sprite twice at the same coordinates
restores the framebuffer, and the second draw collides exactly when the first one set a cell. That VF is 0 when the
first draw only unset cells follows rule R211 by the model's choice, against the last sentence of rule R214 (log entry
7, DEDUCED). -/
def Obligations.DrawTwiceRestoresTheScreen : Prop :=
  ∀ (x y : Reg) (n : BitVec 4) (s : State), n.toNat = 0 ∨ s.i.toNat + n.toNat - 1 ≤ 0xFFF →
    ∃ t, exec (.drw x y n) s = .next t ∧
      (t.reg x = s.reg x → t.reg y = s.reg y → ∃ u, exec (.drw x y n) t = .next u ∧ u.fb = s.fb ∧
        ((∃ k, k < 2048 ∧ s.SpriteHits x y n k ∧ s.fb.cell k = false) → u.reg vf = 1) ∧
        ((∀ k, k < 2048 → s.SpriteHits x y n k → s.fb.cell k = true) → u.reg vf = 0))

/-- The last sentence of rule R214 read word for word: after the second draw VF = 1 whenever the sprite has a set bit.
It contradicts rule R211 where the first draw only unset cells; this statement is expected to FAIL (log entry 7). -/
def Obligations.SecondDrawCollidesWheneverTheSpriteHasASetBit : Prop :=
  ∀ (x y : Reg) (n : BitVec 4) (s t u : State), n.toNat = 0 ∨ s.i.toNat + n.toNat - 1 ≤ 0xFFF →
    exec (.drw x y n) s = .next t → t.reg x = s.reg x → t.reg y = s.reg y → exec (.drw x y n) t = .next u →
    (∃ k, s.SpriteHits x y n k) → u.reg vf = 1

/-! ### Timers and the random byte -/

/-- Rules R230, R231, R232. -/
def Obligations.TimerGetAndSet : Prop :=
  ∀ (x : Reg) (s : State),
    (∃ t, exec (.ldVxDt x) s = .next t ∧ t.reg x = s.dt ∧ t.pc = s.pc + 2 ∧ Frame { regs := [x] } s t) ∧
    (∃ t, exec (.ldDtVx x) s = .next t ∧ t.dt = s.reg x ∧ t.pc = s.pc + 2 ∧ Frame { delay := true } s t) ∧
    (∃ t, exec (.ldStVx x) s = .next t ∧ t.st = s.reg x ∧ t.pc = s.pc + 2 ∧ Frame { sound := true } s t)

/-- Rule R235: one draw, masked with NN; the source advances once. -/
def Obligations.RandomByteIsMasked : Prop :=
  ∀ (x : Reg) (nn : Byte) (s : State), ∃ t, exec (.rnd x nn) s = .next t ∧
    (∀ b, (t.reg x).getLsbD b = ((drawNth 0 s.rng).getLsbD b && nn.getLsbD b)) ∧
    t.rng.drawn = s.rng.drawn + 1 ∧ (∀ k, drawNth k t.rng = drawNth (k + 1) s.rng) ∧ t.pc = s.pc + 2 ∧
    Frame { regs := [x], random := true } s t

/-- Rule R236: with an injected sequence draw number k gives byte number k; with a seed value it gives a free byte that
depends on the seed and on k alone. The form of the seed and of the free byte is the model's choice (log entry 1). -/
def Obligations.DrawsFollowTheSeed : Prop :=
  ∀ k : Nat,
    (∀ bytes : List Byte, k < bytes.length → drawNth k (RngState.ofSeed (.sequence bytes)) = bytes.getD k 0) ∧
    (∀ n : Nat, drawNth k (RngState.ofSeed (.value n)) = Config.rngByte n k)

/-! ### Keys -/

/-- Rules R250, R251: the skips on a key's flag, or `KeyIndexOutOfRange` for a key number above 15. -/
def Obligations.SkipsOnAKey : Prop :=
  ∀ (x : Reg) (s : State),
    (∀ k : Key, (s.reg x).toNat = k.val →
      (∃ t, exec (.skp x) s = .next t ∧ t.pc = (if s.keys[k] = true then s.pc + 4 else s.pc + 2) ∧ Frame {} s t) ∧
      (∃ t, exec (.sknp x) s = .next t ∧ t.pc = (if s.keys[k] = true then s.pc + 2 else s.pc + 4) ∧ Frame {} s t)) ∧
    ((s.reg x).toNat > 15 → ∀ i : Instr, i = .skp x ∨ i = .sknp x → ∃ t, exec i s = .next t ∧
      t.faultInfo.toNat = (s.reg x).toNat ∧
      t = { s with faultCause := .keyIndexOutOfRange, faultInfo := t.faultInfo })

/-- Rule R252: nothing changes when no key is pressed; else a pressed key's number is stored, the same one whenever the
same keys are pressed. -/
def Obligations.WaitForKey : Prop :=
  ∀ (x : Reg) (s : State),
    ((∀ k : Key, s.keys[k] = false) → exec (.ldVxK x) s = .next s) ∧
    ((∃ k : Key, s.keys[k] = true) → ∃ k : Key, s.keys[k] = true ∧
      ∀ s' : State, s'.keys = s.keys → ∃ t, exec (.ldVxK x) s' = .next t ∧ (t.reg x).toNat = k.val ∧
        t.pc = s'.pc + 2 ∧ Frame { regs := [x] } s' t)

/-! ### Unknown opcodes -/

/-- Rules R128, R129: signalled, advanced by 2, nothing else; SYS with its own word `0NNN`. -/
def Obligations.UnknownOpcodesAreSignalled : Prop :=
  ∀ (w : Word) (nnn : BitVec 12) (s : State),
    (∃ t, exec (.unknown w) s = .next t ∧ t.unk = true ∧ t.unkWord = w ∧ t.pc = s.pc + 2 ∧
      Frame { signal := true } s t) ∧
    (∃ t, exec (.sys nnn) s = .next t ∧ t.unk = true ∧ t.unkWord.toNat = nnn.toNat ∧ t.pc = s.pc + 2 ∧
      Frame { signal := true } s t)

/-! ### The whole machine -/

/-- Rule R127: a cycle is a total function of the state. It answers a next state from every state. -/
def Obligations.EveryStepAnswersANextState : Prop :=
  ∀ s : State, ∃ t, step s = .next t

/-- Rule R276: a cycle that raises a fault writes the fault record and nothing else. -/
def Obligations.FaultsArePrecise : Prop :=
  ∀ s t : State, step s = .next t → s.faultCause = .noFault → t.faultCause ≠ .noFault →
    t = { s with faultCause := t.faultCause, faultInfo := t.faultInfo }

/-- Rules R277, R283: each instruction raises exactly the fault the table gives it, exactly when the table says, and
completes without one otherwise. -/
def Obligations.FaultsAreExactlyThoseOfTheTable : Prop :=
  ∀ (i : Instr) (s : State), s.faultCause = .noFault → ∃ t, exec i s = .next t ∧
    match expectedFault i s with
    | some (cause, info) => t = { s with faultCause := cause, faultInfo := info }
    | none => t.faultCause = .noFault

/-- Rule R124: what each instruction that raises no fault does to `PC`. -/
def Obligations.PcChangesAsTabulated : Prop :=
  ∀ (i : Instr) (s t : State), s.faultCause = .noFault → exec i s = .next t → t.faultCause = .noFault →
    match i with
    | .jp nnn => t.pc.toNat = nnn.toNat
    | .jpV0 nnn => t.pc.toNat = nnn.toNat + (s.reg 0).toNat
    | .call nnn => t.pc.toNat = nnn.toNat
    | .ret => ∃ j : Fin 16, s.sp.val = j.val + 1 ∧ t.pc = s.stack[j] + 2
    | .seImm _ _ | .sneImm _ _ | .seReg _ _ | .sneReg _ _ | .skp _ | .sknp _ => t.pc = s.pc + 2 ∨ t.pc = s.pc + 4
    | .ldVxK _ => t.pc = s.pc ∨ t.pc = s.pc + 2
    | _ => t.pc = s.pc + 2

/-- Rules R20, R22: an instruction that raises no fault changes only what the state table and the register rule list for
it. -/
def Obligations.EveryInstructionKeepsItsFrame : Prop :=
  ∀ (i : Instr) (s t : State), s.faultCause = .noFault → exec i s = .next t → t.faultCause = .noFault →
    Frame (touchesOf i s) s t

/-- Rule R23: an instruction that sets the flag and raises no fault leaves 0 or 1 in VF, whatever its operands. -/
def Obligations.FlagIsZeroOrOne : Prop :=
  ∀ (i : Instr) (s t : State), setsFlag i = true → exec i s = .next t → t.faultCause = .noFault →
    t.reg vf = 0 ∨ t.reg vf = 1

/-- Rule R40: no instruction's behaviour depends on the mode but the two shifts' and the two block transfers'. -/
def Obligations.ModeGovernsOnlyFourInstructions : Prop :=
  ∀ (i : Instr) (s t : State) (m : Mode), dependsOnMode i = false → exec i s = .next t →
    exec i { s with mode := m } = .next { t with mode := m }

/-- Rules R36, R37, R38, R44: the latches are outputs. Changing them before an instruction changes nothing else after
it. -/
def Obligations.LatchesDoNotInfluenceExecution : Prop :=
  ∀ (i : Instr) (s t : State) (a b c : Bool) (w : Word), exec i s = .next t →
    ∃ u, exec i { s with redraw := a, tone := b, unk := c, unkWord := w } = .next u ∧
      { u with redraw := t.redraw, tone := t.tone, unk := t.unk, unkWord := t.unkWord } = t

/-- Rules R32, R36, R37, R38: a cycle never clears a latch and never writes the keys; it raises `TONE` only when it ends
with `ST` = 0 and without a fault. -/
def Obligations.LatchesAreSticky : Prop :=
  ∀ s t : State, step s = .next t →
    (s.redraw = true → t.redraw = true) ∧ (s.tone = true → t.tone = true) ∧ (s.unk = true → t.unk = true) ∧
    t.keys = s.keys ∧ (s.tone = false → t.tone = true → t.st = 0 ∧ t.faultCause = .noFault)

/-- Rule R40 and the configuration of rule R20: no sequence of operations changes `MODE` or `FONT`. -/
def Obligations.ConfigurationIsImmutable : Prop :=
  ∀ (ops : List DriverOp) (s t : State), applyAll ops s = .next t → t.mode = s.mode ∧ t.font = s.font

/-- Rule R326 with rule R140: a program that has ended stays ended, and only the timers and `TONE` go on. -/
def Obligations.EndedProgramStaysEnded : Prop :=
  ∀ s : State, s.Ended → ∃ t, step s = .next t ∧ t.Ended ∧ t = { s with dt := t.dt, st := t.st, tone := t.tone }

/-- The memory's canonical form says what it should: two well-formed memories with the same bytes are equal data. -/
def Obligations.EqualBytesAreEqualMemories : Prop :=
  ∀ (font : Vector Byte 80) (m m' : Memory), Memory.wf font m = true → Memory.wf font m' = true →
    (∀ a, a < 4096 → Memory.read font m a = Memory.read font m' a) → m = m'

/-- The reset state, and every constructed one, meets the invariant. -/
def Obligations.ResetMeetsTheInvariant : Prop :=
  State.reset.Inv ∧ ∀ (m : Mode) (font : Vector Byte 80) (seed : Seed), (construct m font seed).Inv

/-- Every step keeps the invariant, from every state that meets it: memory stays canonical, the fault record stays true
of the state (rules R39, R276, R277), `UNK_WORD` stays a word with no handler (rule R38). -/
def Obligations.StepKeepsTheInvariant : Prop :=
  ∀ s t : State, s.Inv → step s = .next t → t.Inv

/-- Every sequence of the driver's operations (rule R10) runs to its end and keeps the invariant. -/
def Obligations.EveryOperationSequenceKeepsTheInvariant : Prop :=
  ∀ (ops : List DriverOp) (s : State), s.Inv → ∃ t, applyAll ops s = .next t ∧ t.Inv

/-! ### The driver's operations -/

/-- Rule R316, with rule R317: `load_program` by length, the bytes it copies, and that it touches nothing else. -/
def Obligations.LoadProgramCopiesTheImage : Prop :=
  ∀ (bytes : List Byte) (s : State),
    (bytes.length = 0 → s.loadProgram bytes = .error .romEmpty) ∧
    (bytes.length > 3584 → s.loadProgram bytes = .error .romTooLarge) ∧
    (0 < bytes.length → bytes.length ≤ 3584 → ∃ t, s.loadProgram bytes = .ok t ∧
      (∀ j, j < bytes.length → t.readByte (0x200 + j) = bytes.getD j 0) ∧
      Frame { bytes := (List.range bytes.length).map (0x200 + ·), pc := false } s t)

/-- Rules R295 to R298: `set_key` and the latch clears, in every state, faulted included. -/
def Obligations.DriverWritesKeysAndClearsLatches : Prop :=
  ∀ (s : State) (k : Key) (pressed : Bool),
    (∃ t, (DriverOp.setKey k pressed).apply s = .next t ∧ t.keys[k] = pressed ∧
      (∀ j : Key, j ≠ k → t.keys[j] = s.keys[j]) ∧ t = { s with keys := t.keys }) ∧
    DriverOp.clearRedraw.apply s = .next { s with redraw := false } ∧
    DriverOp.clearTone.apply s = .next { s with tone := false } ∧
    DriverOp.clearUnknown.apply s = .next { s with unk := false }
end

