-- ==== Sys2Proof/Laws/Display.lean ====
section
/-!
SUPPORT. The framebuffer by cells (rules R33, R211): what a flip and a draw do to every cell, and which cells a sprite
targets.
-/

namespace Sys2Proof.Machine

open Sys2Proof

theorem Framebuffer.cell_clear (k : Nat) : Framebuffer.clear.cell k = false := by
  simp only [Framebuffer.cell, Framebuffer.row, Framebuffer.clear, Vector.getElem?_replicate]
  split <;> simp

theorem Framebuffer.cell_flip (fb : Framebuffer) (j k : Nat) (hj : j < 2048) :
    (fb.flip j).cell k = (fb.cell k ^^ decide (k = j)) := by
  have hr : j / 64 < 32 := by omega
  have hm : k % 64 < 64 := Nat.mod_lt _ (by decide)
  simp only [Framebuffer.cell, Framebuffer.flip, Framebuffer.row, Vector.getElem?_setIfInBounds, hr, if_true]
  by_cases h : j / 64 = k / 64
  · simp only [h, if_true, Option.getD_some, BitVec.getLsbD_xor, BitVec.getLsbD_twoPow]
    by_cases hk : k = j
    · subst hk; simp [hm]
    · have : ¬ j % 64 = k % 64 := by omega
      simp [hk, this]
  · have : ¬ k = j := fun e => h (by rw [e])
    simp [h, this]

/-- Two framebuffers with the same cells are equal. -/
theorem Framebuffer.ext_cell (f g : Framebuffer) (h : ∀ k, k < 2048 → f.cell k = g.cell k) : f = g := by
  apply Vector.ext
  intro y hy
  apply BitVec.eq_of_getLsbD_eq
  intro x hx
  have := h (64 * y + x) (by omega)
  have e1 : (64 * y + x) / 64 = y := by omega
  have e2 : (64 * y + x) % 64 = x := by omega
  simpa [Framebuffer.cell, Framebuffer.row, e1, e2, hy] using this

/-- Drawing distinct cells: each one targeted is flipped, no other changes, and the collision bit says whether one of
them was set. -/
theorem drawCells_spec (fb : Framebuffer) (hit : Bool) (cells : List Nat) (hn : cells.Nodup) (hb : ∀ k ∈ cells, k < 2048) :
    (∀ k, (drawCells fb hit cells).1.cell k = (fb.cell k ^^ decide (k ∈ cells))) ∧
      (drawCells fb hit cells).2 = (hit || cells.any fun k => fb.cell k) := by
  induction cells generalizing fb hit with
  | nil => simp [drawCells]
  | cons j rest ih =>
    rw [List.nodup_cons] at hn
    have hj := hb j (List.mem_cons_self ..)
    obtain ⟨h1, h2⟩ := ih (fb.flip j) (hit || fb.cell j) hn.2 fun k hk => hb k (List.mem_cons_of_mem _ hk)
    refine ⟨fun k => ?_, ?_⟩
    · rw [drawCells, h1, Framebuffer.cell_flip _ _ _ hj]
      by_cases hk : k = j
      · subst hk; simp [hn.1]
      · simp [hk]
    · rw [drawCells, h2, List.any_cons, Bool.or_assoc]
      congr 2
      rw [Bool.eq_iff_iff, List.any_eq_true, List.any_eq_true]
      refine exists_congr fun k => and_congr_right fun hk => ?_
      have hkj : k ≠ j := fun e => hn.1 (e ▸ hk)
      simp [Framebuffer.cell_flip _ _ _ hj, hkj]

theorem mem_spriteColumns (b : Byte) (col : Nat) : col ∈ spriteColumns b ↔ col < 8 ∧ b.getLsbD (7 - col) = true := by
  simp [spriteColumns]

/-- The cells a sprite targets (rules R211, R212). -/
theorem mem_spriteCells (x y row : Nat) (rows : List Byte) (k : Nat) :
    k ∈ spriteCells x y row rows ↔ ∃ r col, r < rows.length ∧ col < 8 ∧ (rows.getD r 0).getLsbD (7 - col) = true ∧
      k = ((x + col) + (y + (row + r)) * 64) % 2048 := by
  induction rows generalizing row with
  | nil => simp [spriteCells]
  | cons b rest ih =>
    rw [spriteCells, List.mem_append, ih]
    constructor
    · rintro (h | ⟨r, col, hr, hc, hs, rfl⟩)
      · obtain ⟨col, hc, rfl⟩ := List.mem_map.mp h
        obtain ⟨hc, hs⟩ := (mem_spriteColumns b col).mp hc
        exact ⟨0, col, by simp, hc, by simpa using hs, by simp⟩
      · exact ⟨r + 1, col, by simpa using hr, hc, by simpa using hs, by congr 2; omega⟩
    · rintro ⟨r, col, hr, hc, hs, rfl⟩
      cases r with
      | zero => exact .inl (List.mem_map.mpr ⟨col, (mem_spriteColumns b col).mpr ⟨hc, by simpa using hs⟩, by simp⟩)
      | succ r => exact .inr ⟨r, col, by simpa using hr, hc, by simpa using hs, by congr 2; omega⟩

theorem spriteCells_lt (x y row : Nat) (rows : List Byte) (k : Nat) (h : k ∈ spriteCells x y row rows) : k < 2048 := by
  obtain ⟨r, col, -, -, -, rfl⟩ := (mem_spriteCells x y row rows k).mp h
  exact Nat.mod_lt _ (by decide)

end Sys2Proof.Machine
end

