-- ==== Sys2Proof/Laws/Fields.lean ====
section
/-!
SUPPORT. The fields of a word by arithmetic (rule R13), of a word put together from fields (rules R91, R92), and of a
word taken apart into bytes (rule R62).
-/

namespace Sys2Proof.Machine

open Sys2Proof

/-! Every field is a quotient and a remainder of the word. -/

theorem toNat_fieldFamily (w : Word) : (fieldFamily w).toNat = w.toNat / 0x1000 := by
  have := w.isLt
  simp only [fieldFamily, BitVec.extractLsb'_toNat, Nat.shiftRight_eq_div_pow]
  omega

theorem val_fieldX (w : Word) : (fieldX w).val = w.toNat / 0x100 % 0x10 := by
  simp only [fieldX, BitVec.val_toFin, BitVec.extractLsb'_toNat, Nat.shiftRight_eq_div_pow]

theorem val_fieldY (w : Word) : (fieldY w).val = w.toNat / 0x10 % 0x10 := by
  simp only [fieldY, BitVec.val_toFin, BitVec.extractLsb'_toNat, Nat.shiftRight_eq_div_pow]

theorem toNat_fieldN (w : Word) : (fieldN w).toNat = w.toNat % 0x10 := by
  simp [fieldN]

theorem toNat_fieldNN (w : Word) : (fieldNN w).toNat = w.toNat % 0x100 := by
  simp [fieldNN]

theorem toNat_fieldNNN (w : Word) : (fieldNNN w).toNat = w.toNat % 0x1000 := by
  simp [fieldNNN]

theorem toNat_bigEndian (hi lo : Byte) : (bigEndian hi lo).toNat = hi.toNat * 0x100 + lo.toNat := by
  have := hi.isLt
  have := lo.isLt
  simp only [bigEndian, BitVec.toNat_ofNat]
  omega

theorem toNat_wordNNN (f : BitVec 4) (nnn : BitVec 12) : (wordNNN f nnn).toNat = f.toNat * 0x1000 + nnn.toNat := by
  have := f.isLt
  have := nnn.isLt
  simp only [wordNNN, BitVec.toNat_ofNat]
  omega

theorem toNat_wordXNN (f : BitVec 4) (x : Reg) (nn : Byte) :
    (wordXNN f x nn).toNat = f.toNat * 0x1000 + x.val * 0x100 + nn.toNat := by
  have := f.isLt
  have := x.isLt
  have := nn.isLt
  simp only [wordXNN, BitVec.toNat_ofNat]
  omega

theorem toNat_wordXYN (f : BitVec 4) (x y : Reg) (n : BitVec 4) :
    (wordXYN f x y n).toNat = f.toNat * 0x1000 + x.val * 0x100 + y.val * 0x10 + n.toNat := by
  have := f.isLt
  have := x.isLt
  have := y.isLt
  have := n.isLt
  simp only [wordXYN, BitVec.toNat_ofNat]
  omega

/-! The fields of a word put together from fields. -/

@[simp] theorem fieldFamily_wordNNN (f : BitVec 4) (nnn : BitVec 12) : fieldFamily (wordNNN f nnn) = f := by
  apply BitVec.eq_of_toNat_eq
  have := nnn.isLt
  rw [toNat_fieldFamily, toNat_wordNNN]
  omega

@[simp] theorem fieldNNN_wordNNN (f : BitVec 4) (nnn : BitVec 12) : fieldNNN (wordNNN f nnn) = nnn := by
  apply BitVec.eq_of_toNat_eq
  have := nnn.isLt
  rw [toNat_fieldNNN, toNat_wordNNN]
  omega

@[simp] theorem fieldFamily_wordXNN (f : BitVec 4) (x : Reg) (nn : Byte) : fieldFamily (wordXNN f x nn) = f := by
  apply BitVec.eq_of_toNat_eq
  have := x.isLt
  have := nn.isLt
  rw [toNat_fieldFamily, toNat_wordXNN]
  omega

@[simp] theorem fieldX_wordXNN (f : BitVec 4) (x : Reg) (nn : Byte) : fieldX (wordXNN f x nn) = x := by
  apply Fin.ext
  have := x.isLt
  have := nn.isLt
  rw [val_fieldX, toNat_wordXNN]
  omega

@[simp] theorem fieldNN_wordXNN (f : BitVec 4) (x : Reg) (nn : Byte) : fieldNN (wordXNN f x nn) = nn := by
  apply BitVec.eq_of_toNat_eq
  have := nn.isLt
  rw [toNat_fieldNN, toNat_wordXNN]
  omega

@[simp] theorem fieldFamily_wordXYN (f : BitVec 4) (x y : Reg) (n : BitVec 4) : fieldFamily (wordXYN f x y n) = f := by
  apply BitVec.eq_of_toNat_eq
  have := x.isLt
  have := y.isLt
  have := n.isLt
  rw [toNat_fieldFamily, toNat_wordXYN]
  omega

@[simp] theorem fieldX_wordXYN (f : BitVec 4) (x y : Reg) (n : BitVec 4) : fieldX (wordXYN f x y n) = x := by
  apply Fin.ext
  have := x.isLt
  have := y.isLt
  have := n.isLt
  rw [val_fieldX, toNat_wordXYN]
  omega

@[simp] theorem fieldY_wordXYN (f : BitVec 4) (x y : Reg) (n : BitVec 4) : fieldY (wordXYN f x y n) = y := by
  apply Fin.ext
  have := y.isLt
  have := n.isLt
  rw [val_fieldY, toNat_wordXYN]
  omega

@[simp] theorem fieldN_wordXYN (f : BitVec 4) (x y : Reg) (n : BitVec 4) : fieldN (wordXYN f x y n) = n := by
  apply BitVec.eq_of_toNat_eq
  have := n.isLt
  rw [toNat_fieldN, toNat_wordXYN]
  omega

/-! A word is put together from its own fields. -/

theorem wordNNN_fields (w : Word) : wordNNN (fieldFamily w) (fieldNNN w) = w := by
  apply BitVec.eq_of_toNat_eq
  rw [toNat_wordNNN, toNat_fieldFamily, toNat_fieldNNN]
  omega

theorem wordXNN_fields (w : Word) : wordXNN (fieldFamily w) (fieldX w) (fieldNN w) = w := by
  apply BitVec.eq_of_toNat_eq
  rw [toNat_wordXNN, toNat_fieldFamily, val_fieldX, toNat_fieldNN]
  omega

theorem wordXYN_fields (w : Word) : wordXYN (fieldFamily w) (fieldX w) (fieldY w) (fieldN w) = w := by
  apply BitVec.eq_of_toNat_eq
  rw [toNat_wordXYN, toNat_fieldFamily, val_fieldX, val_fieldY, toNat_fieldN]
  omega

/-- A word is its two bytes, big-endian (rule R62). -/
theorem bigEndian_bytes (w : Word) : bigEndian (w.extractLsb' 8 8) (w.extractLsb' 0 8) = w := by
  apply BitVec.eq_of_toNat_eq
  have := w.isLt
  simp only [toNat_bigEndian, BitVec.extractLsb'_toNat, Nat.shiftRight_eq_div_pow]
  omega

end Sys2Proof.Machine
end

