-- ==== Sys2Proof/Laws/Memory.lean ====
section
/-!
SUPPORT. The laws of memory: a read after a write to the same address gives the byte written, a write leaves every
other address alone, and a write keeps the canonical form.
-/

namespace Sys2Proof.Machine.Memory

open Sys2Proof

variable (font : Vector Byte 80)

theorem lookup_erase (m : Memory) (a q : Nat) : (m.erase a).lookup q = if q = a then none else m.lookup q := by
  induction m with
  | nil => simp [erase, lookup]
  | cons c rest ih =>
    have ih' : lookup (rest.filter fun c => c.1 != a) q = if q = a then none else lookup rest q := ih
    by_cases h : c.1 = a
    · simp only [erase, List.filter_cons, h, bne_self_eq_false, Bool.false_eq_true, if_false, ih', lookup]
      by_cases hq : q = a
      · simp [hq]
      · have : ¬ a = q := fun e => hq e.symm
        simp [hq, this]
    · simp only [erase, List.filter_cons, bne_iff_ne, ne_eq, h, not_false_eq_true, if_true, lookup, ih']
      by_cases hq : q = a
      · have : ¬ c.1 = q := fun e => h (e.trans hq)
        simp [hq, h]
      · simp [hq]

theorem lookup_insertCell (a : Nat) (b : Byte) (m : Memory) (h : m.lookup a = none) (q : Nat) :
    (insertCell (a, b) m).lookup q = if q = a then some b else m.lookup q := by
  induction m with
  | nil => simp only [insertCell, lookup, eq_comm (a := q)]
  | cons d rest ih =>
    simp only [lookup] at h
    split at h
    · cases h
    · next hd =>
      by_cases hlt : a < d.1
      · simp only [insertCell, hlt, if_true, lookup]
        by_cases hq : q = a
        · simp [hq]
        · have : ¬ a = q := fun e => hq e.symm
          simp [hq, this]
      · simp only [insertCell, hlt, if_false, lookup, ih h]
        by_cases hq : q = a
        · simp [hq, hd]
        · simp [hq]

/-- Reading after a write (rule R64). -/
theorem read_write (m : Memory) (a q : Nat) (b : Byte) :
    read font (write font m a b) q = if q = a then b else read font m q := by
  unfold read write
  split
  · next h =>
    rw [lookup_erase]
    by_cases hq : q = a
    · simp [hq, h]
    · simp [hq]
  · rw [lookup_insertCell a b _ (by simp [lookup_erase]), lookup_erase]
    by_cases hq : q = a <;> simp [hq]

theorem wf_nil : wf font [] = true := by simp [wf]

theorem wf_iff (m : Memory) : wf font m = true ↔
    m.Pairwise (fun c d => c.1 < d.1) ∧ ∀ c ∈ m, c.1 < Config.memorySize ∧ c.2 ≠ unlisted font c.1 := by
  simp [wf, List.all_eq_true]

theorem mem_insertCell (c d : Host.Cell) (m : Memory) : d ∈ insertCell c m ↔ d = c ∨ d ∈ m := by
  induction m with
  | nil => simp [insertCell]
  | cons e rest ih =>
    simp only [insertCell]
    split
    · simp
    · simp only [List.mem_cons, ih]; tauto

theorem pairwise_insertCell (c : Host.Cell) (m : Memory) (hm : m.Pairwise fun c d => c.1 < d.1)
    (hc : ∀ d ∈ m, d.1 ≠ c.1) : (insertCell c m).Pairwise fun c d => c.1 < d.1 := by
  induction m with
  | nil => simp [insertCell]
  | cons e rest ih =>
    rw [List.pairwise_cons] at hm
    simp only [insertCell]
    split
    · next h =>
      refine List.pairwise_cons.mpr ⟨fun d hd => ?_, List.pairwise_cons.mpr hm⟩
      rcases List.mem_cons.mp hd with rfl | hd
      · exact h
      · exact h.trans (hm.1 d hd)
    · next h =>
      refine List.pairwise_cons.mpr ⟨fun d hd => ?_, ih hm.2 fun d hd => hc d (List.mem_cons_of_mem _ hd)⟩
      rcases (mem_insertCell c d rest).mp hd with rfl | hd
      · have := hc e (List.mem_cons_self ..)
        omega
      · exact hm.1 d hd

/-- A write inside the address space keeps the canonical form. -/
theorem wf_write (m : Memory) (a : Nat) (b : Byte) (hm : wf font m = true) (ha : a < Config.memorySize) :
    wf font (write font m a b) = true := by
  rw [wf_iff] at hm ⊢
  have her : (m.erase a).Pairwise fun c d => c.1 < d.1 := hm.1.filter _
  unfold write
  split
  · exact ⟨her, fun c hc => hm.2 c (List.mem_of_mem_filter hc)⟩
  · next hb =>
    refine ⟨pairwise_insertCell _ _ her fun d hd => ?_, fun c hc => ?_⟩
    · simpa [erase] using (List.mem_filter.mp hd).2
    · rcases (mem_insertCell _ _ _).mp hc with rfl | hc
      · exact ⟨ha, hb⟩
      · exact hm.2 c (List.mem_of_mem_filter hc)

end Sys2Proof.Machine.Memory
end

