-- ==== Sys2Proof/Laws/State.lean ====
section
/-!
SUPPORT. One lemma per field per update of the state, and how the register and memory reads pass each update, so that
no later proof unfolds a record update.
-/

namespace Sys2Proof.Machine

variable (s : State)

@[simp] theorem State.setReg_v (r : Reg) (b : Byte) : (s.setReg r b).v = s.v.set r b := rfl
@[simp] theorem State.setReg_i (r : Reg) (b : Byte) : (s.setReg r b).i = s.i := rfl
@[simp] theorem State.setReg_pc (r : Reg) (b : Byte) : (s.setReg r b).pc = s.pc := rfl
@[simp] theorem State.setReg_sp (r : Reg) (b : Byte) : (s.setReg r b).sp = s.sp := rfl
@[simp] theorem State.setReg_stack (r : Reg) (b : Byte) : (s.setReg r b).stack = s.stack := rfl
@[simp] theorem State.setReg_mem (r : Reg) (b : Byte) : (s.setReg r b).mem = s.mem := rfl
@[simp] theorem State.setReg_fb (r : Reg) (b : Byte) : (s.setReg r b).fb = s.fb := rfl
@[simp] theorem State.setReg_keys (r : Reg) (b : Byte) : (s.setReg r b).keys = s.keys := rfl
@[simp] theorem State.setReg_dt (r : Reg) (b : Byte) : (s.setReg r b).dt = s.dt := rfl
@[simp] theorem State.setReg_st (r : Reg) (b : Byte) : (s.setReg r b).st = s.st := rfl
@[simp] theorem State.setReg_redraw (r : Reg) (b : Byte) : (s.setReg r b).redraw = s.redraw := rfl
@[simp] theorem State.setReg_tone (r : Reg) (b : Byte) : (s.setReg r b).tone = s.tone := rfl
@[simp] theorem State.setReg_unk (r : Reg) (b : Byte) : (s.setReg r b).unk = s.unk := rfl
@[simp] theorem State.setReg_unkWord (r : Reg) (b : Byte) : (s.setReg r b).unkWord = s.unkWord := rfl
@[simp] theorem State.setReg_faultCause (r : Reg) (b : Byte) : (s.setReg r b).faultCause = s.faultCause := rfl
@[simp] theorem State.setReg_faultInfo (r : Reg) (b : Byte) : (s.setReg r b).faultInfo = s.faultInfo := rfl
@[simp] theorem State.setReg_rng (r : Reg) (b : Byte) : (s.setReg r b).rng = s.rng := rfl
@[simp] theorem State.setReg_mode (r : Reg) (b : Byte) : (s.setReg r b).mode = s.mode := rfl
@[simp] theorem State.setReg_font (r : Reg) (b : Byte) : (s.setReg r b).font = s.font := rfl
@[simp] theorem State.readByte_setReg (r : Reg) (b : Byte) (q : Nat) : (s.setReg r b).readByte q = s.readByte q := rfl

@[simp] theorem State.setFlag_v (f : Bool) : (s.setFlag f).v = s.v.set vf (flagByte f) := rfl
@[simp] theorem State.setFlag_i (f : Bool) : (s.setFlag f).i = s.i := rfl
@[simp] theorem State.setFlag_pc (f : Bool) : (s.setFlag f).pc = s.pc := rfl
@[simp] theorem State.setFlag_sp (f : Bool) : (s.setFlag f).sp = s.sp := rfl
@[simp] theorem State.setFlag_stack (f : Bool) : (s.setFlag f).stack = s.stack := rfl
@[simp] theorem State.setFlag_mem (f : Bool) : (s.setFlag f).mem = s.mem := rfl
@[simp] theorem State.setFlag_fb (f : Bool) : (s.setFlag f).fb = s.fb := rfl
@[simp] theorem State.setFlag_keys (f : Bool) : (s.setFlag f).keys = s.keys := rfl
@[simp] theorem State.setFlag_dt (f : Bool) : (s.setFlag f).dt = s.dt := rfl
@[simp] theorem State.setFlag_st (f : Bool) : (s.setFlag f).st = s.st := rfl
@[simp] theorem State.setFlag_redraw (f : Bool) : (s.setFlag f).redraw = s.redraw := rfl
@[simp] theorem State.setFlag_tone (f : Bool) : (s.setFlag f).tone = s.tone := rfl
@[simp] theorem State.setFlag_unk (f : Bool) : (s.setFlag f).unk = s.unk := rfl
@[simp] theorem State.setFlag_unkWord (f : Bool) : (s.setFlag f).unkWord = s.unkWord := rfl
@[simp] theorem State.setFlag_faultCause (f : Bool) : (s.setFlag f).faultCause = s.faultCause := rfl
@[simp] theorem State.setFlag_faultInfo (f : Bool) : (s.setFlag f).faultInfo = s.faultInfo := rfl
@[simp] theorem State.setFlag_rng (f : Bool) : (s.setFlag f).rng = s.rng := rfl
@[simp] theorem State.setFlag_mode (f : Bool) : (s.setFlag f).mode = s.mode := rfl
@[simp] theorem State.setFlag_font (f : Bool) : (s.setFlag f).font = s.font := rfl
@[simp] theorem State.readByte_setFlag (f : Bool) (q : Nat) : (s.setFlag f).readByte q = s.readByte q := rfl

@[simp] theorem State.setIndex_v (w : Word) : (s.setIndex w).v = s.v := rfl
@[simp] theorem State.setIndex_i (w : Word) : (s.setIndex w).i = w := rfl
@[simp] theorem State.setIndex_pc (w : Word) : (s.setIndex w).pc = s.pc := rfl
@[simp] theorem State.setIndex_sp (w : Word) : (s.setIndex w).sp = s.sp := rfl
@[simp] theorem State.setIndex_stack (w : Word) : (s.setIndex w).stack = s.stack := rfl
@[simp] theorem State.setIndex_mem (w : Word) : (s.setIndex w).mem = s.mem := rfl
@[simp] theorem State.setIndex_fb (w : Word) : (s.setIndex w).fb = s.fb := rfl
@[simp] theorem State.setIndex_keys (w : Word) : (s.setIndex w).keys = s.keys := rfl
@[simp] theorem State.setIndex_dt (w : Word) : (s.setIndex w).dt = s.dt := rfl
@[simp] theorem State.setIndex_st (w : Word) : (s.setIndex w).st = s.st := rfl
@[simp] theorem State.setIndex_redraw (w : Word) : (s.setIndex w).redraw = s.redraw := rfl
@[simp] theorem State.setIndex_tone (w : Word) : (s.setIndex w).tone = s.tone := rfl
@[simp] theorem State.setIndex_unk (w : Word) : (s.setIndex w).unk = s.unk := rfl
@[simp] theorem State.setIndex_unkWord (w : Word) : (s.setIndex w).unkWord = s.unkWord := rfl
@[simp] theorem State.setIndex_faultCause (w : Word) : (s.setIndex w).faultCause = s.faultCause := rfl
@[simp] theorem State.setIndex_faultInfo (w : Word) : (s.setIndex w).faultInfo = s.faultInfo := rfl
@[simp] theorem State.setIndex_rng (w : Word) : (s.setIndex w).rng = s.rng := rfl
@[simp] theorem State.setIndex_mode (w : Word) : (s.setIndex w).mode = s.mode := rfl
@[simp] theorem State.setIndex_font (w : Word) : (s.setIndex w).font = s.font := rfl
@[simp] theorem State.reg_setIndex (w : Word) (x : Reg) : (s.setIndex w).reg x = s.reg x := rfl
@[simp] theorem State.readByte_setIndex (w : Word) (q : Nat) : (s.setIndex w).readByte q = s.readByte q := rfl

@[simp] theorem State.setPc_v (w : Word) : (s.setPc w).v = s.v := rfl
@[simp] theorem State.setPc_i (w : Word) : (s.setPc w).i = s.i := rfl
@[simp] theorem State.setPc_pc (w : Word) : (s.setPc w).pc = w := rfl
@[simp] theorem State.setPc_sp (w : Word) : (s.setPc w).sp = s.sp := rfl
@[simp] theorem State.setPc_stack (w : Word) : (s.setPc w).stack = s.stack := rfl
@[simp] theorem State.setPc_mem (w : Word) : (s.setPc w).mem = s.mem := rfl
@[simp] theorem State.setPc_fb (w : Word) : (s.setPc w).fb = s.fb := rfl
@[simp] theorem State.setPc_keys (w : Word) : (s.setPc w).keys = s.keys := rfl
@[simp] theorem State.setPc_dt (w : Word) : (s.setPc w).dt = s.dt := rfl
@[simp] theorem State.setPc_st (w : Word) : (s.setPc w).st = s.st := rfl
@[simp] theorem State.setPc_redraw (w : Word) : (s.setPc w).redraw = s.redraw := rfl
@[simp] theorem State.setPc_tone (w : Word) : (s.setPc w).tone = s.tone := rfl
@[simp] theorem State.setPc_unk (w : Word) : (s.setPc w).unk = s.unk := rfl
@[simp] theorem State.setPc_unkWord (w : Word) : (s.setPc w).unkWord = s.unkWord := rfl
@[simp] theorem State.setPc_faultCause (w : Word) : (s.setPc w).faultCause = s.faultCause := rfl
@[simp] theorem State.setPc_faultInfo (w : Word) : (s.setPc w).faultInfo = s.faultInfo := rfl
@[simp] theorem State.setPc_rng (w : Word) : (s.setPc w).rng = s.rng := rfl
@[simp] theorem State.setPc_mode (w : Word) : (s.setPc w).mode = s.mode := rfl
@[simp] theorem State.setPc_font (w : Word) : (s.setPc w).font = s.font := rfl
@[simp] theorem State.reg_setPc (w : Word) (x : Reg) : (s.setPc w).reg x = s.reg x := rfl
@[simp] theorem State.readByte_setPc (w : Word) (q : Nat) : (s.setPc w).readByte q = s.readByte q := rfl

@[simp] theorem State.advance_v : (s.advance).v = s.v := rfl
@[simp] theorem State.advance_i : (s.advance).i = s.i := rfl
@[simp] theorem State.advance_pc : (s.advance).pc = s.pc + 2 := rfl
@[simp] theorem State.advance_sp : (s.advance).sp = s.sp := rfl
@[simp] theorem State.advance_stack : (s.advance).stack = s.stack := rfl
@[simp] theorem State.advance_mem : (s.advance).mem = s.mem := rfl
@[simp] theorem State.advance_fb : (s.advance).fb = s.fb := rfl
@[simp] theorem State.advance_keys : (s.advance).keys = s.keys := rfl
@[simp] theorem State.advance_dt : (s.advance).dt = s.dt := rfl
@[simp] theorem State.advance_st : (s.advance).st = s.st := rfl
@[simp] theorem State.advance_redraw : (s.advance).redraw = s.redraw := rfl
@[simp] theorem State.advance_tone : (s.advance).tone = s.tone := rfl
@[simp] theorem State.advance_unk : (s.advance).unk = s.unk := rfl
@[simp] theorem State.advance_unkWord : (s.advance).unkWord = s.unkWord := rfl
@[simp] theorem State.advance_faultCause : (s.advance).faultCause = s.faultCause := rfl
@[simp] theorem State.advance_faultInfo : (s.advance).faultInfo = s.faultInfo := rfl
@[simp] theorem State.advance_rng : (s.advance).rng = s.rng := rfl
@[simp] theorem State.advance_mode : (s.advance).mode = s.mode := rfl
@[simp] theorem State.advance_font : (s.advance).font = s.font := rfl
@[simp] theorem State.reg_advance (x : Reg) : (s.advance).reg x = s.reg x := rfl
@[simp] theorem State.readByte_advance (q : Nat) : (s.advance).readByte q = s.readByte q := rfl

@[simp] theorem State.skipIf_v (c : Bool) : (s.skipIf c).v = s.v := rfl
@[simp] theorem State.skipIf_i (c : Bool) : (s.skipIf c).i = s.i := rfl
@[simp] theorem State.skipIf_pc (c : Bool) : (s.skipIf c).pc = s.pc + if c then 4 else 2 := rfl
@[simp] theorem State.skipIf_sp (c : Bool) : (s.skipIf c).sp = s.sp := rfl
@[simp] theorem State.skipIf_stack (c : Bool) : (s.skipIf c).stack = s.stack := rfl
@[simp] theorem State.skipIf_mem (c : Bool) : (s.skipIf c).mem = s.mem := rfl
@[simp] theorem State.skipIf_fb (c : Bool) : (s.skipIf c).fb = s.fb := rfl
@[simp] theorem State.skipIf_keys (c : Bool) : (s.skipIf c).keys = s.keys := rfl
@[simp] theorem State.skipIf_dt (c : Bool) : (s.skipIf c).dt = s.dt := rfl
@[simp] theorem State.skipIf_st (c : Bool) : (s.skipIf c).st = s.st := rfl
@[simp] theorem State.skipIf_redraw (c : Bool) : (s.skipIf c).redraw = s.redraw := rfl
@[simp] theorem State.skipIf_tone (c : Bool) : (s.skipIf c).tone = s.tone := rfl
@[simp] theorem State.skipIf_unk (c : Bool) : (s.skipIf c).unk = s.unk := rfl
@[simp] theorem State.skipIf_unkWord (c : Bool) : (s.skipIf c).unkWord = s.unkWord := rfl
@[simp] theorem State.skipIf_faultCause (c : Bool) : (s.skipIf c).faultCause = s.faultCause := rfl
@[simp] theorem State.skipIf_faultInfo (c : Bool) : (s.skipIf c).faultInfo = s.faultInfo := rfl
@[simp] theorem State.skipIf_rng (c : Bool) : (s.skipIf c).rng = s.rng := rfl
@[simp] theorem State.skipIf_mode (c : Bool) : (s.skipIf c).mode = s.mode := rfl
@[simp] theorem State.skipIf_font (c : Bool) : (s.skipIf c).font = s.font := rfl
@[simp] theorem State.reg_skipIf (c : Bool) (x : Reg) : (s.skipIf c).reg x = s.reg x := rfl
@[simp] theorem State.readByte_skipIf (c : Bool) (q : Nat) : (s.skipIf c).readByte q = s.readByte q := rfl

@[simp] theorem State.setDelay_v (b : Byte) : (s.setDelay b).v = s.v := rfl
@[simp] theorem State.setDelay_i (b : Byte) : (s.setDelay b).i = s.i := rfl
@[simp] theorem State.setDelay_pc (b : Byte) : (s.setDelay b).pc = s.pc := rfl
@[simp] theorem State.setDelay_sp (b : Byte) : (s.setDelay b).sp = s.sp := rfl
@[simp] theorem State.setDelay_stack (b : Byte) : (s.setDelay b).stack = s.stack := rfl
@[simp] theorem State.setDelay_mem (b : Byte) : (s.setDelay b).mem = s.mem := rfl
@[simp] theorem State.setDelay_fb (b : Byte) : (s.setDelay b).fb = s.fb := rfl
@[simp] theorem State.setDelay_keys (b : Byte) : (s.setDelay b).keys = s.keys := rfl
@[simp] theorem State.setDelay_dt (b : Byte) : (s.setDelay b).dt = b := rfl
@[simp] theorem State.setDelay_st (b : Byte) : (s.setDelay b).st = s.st := rfl
@[simp] theorem State.setDelay_redraw (b : Byte) : (s.setDelay b).redraw = s.redraw := rfl
@[simp] theorem State.setDelay_tone (b : Byte) : (s.setDelay b).tone = s.tone := rfl
@[simp] theorem State.setDelay_unk (b : Byte) : (s.setDelay b).unk = s.unk := rfl
@[simp] theorem State.setDelay_unkWord (b : Byte) : (s.setDelay b).unkWord = s.unkWord := rfl
@[simp] theorem State.setDelay_faultCause (b : Byte) : (s.setDelay b).faultCause = s.faultCause := rfl
@[simp] theorem State.setDelay_faultInfo (b : Byte) : (s.setDelay b).faultInfo = s.faultInfo := rfl
@[simp] theorem State.setDelay_rng (b : Byte) : (s.setDelay b).rng = s.rng := rfl
@[simp] theorem State.setDelay_mode (b : Byte) : (s.setDelay b).mode = s.mode := rfl
@[simp] theorem State.setDelay_font (b : Byte) : (s.setDelay b).font = s.font := rfl
@[simp] theorem State.reg_setDelay (b : Byte) (x : Reg) : (s.setDelay b).reg x = s.reg x := rfl
@[simp] theorem State.readByte_setDelay (b : Byte) (q : Nat) : (s.setDelay b).readByte q = s.readByte q := rfl

@[simp] theorem State.setSound_v (b : Byte) : (s.setSound b).v = s.v := rfl
@[simp] theorem State.setSound_i (b : Byte) : (s.setSound b).i = s.i := rfl
@[simp] theorem State.setSound_pc (b : Byte) : (s.setSound b).pc = s.pc := rfl
@[simp] theorem State.setSound_sp (b : Byte) : (s.setSound b).sp = s.sp := rfl
@[simp] theorem State.setSound_stack (b : Byte) : (s.setSound b).stack = s.stack := rfl
@[simp] theorem State.setSound_mem (b : Byte) : (s.setSound b).mem = s.mem := rfl
@[simp] theorem State.setSound_fb (b : Byte) : (s.setSound b).fb = s.fb := rfl
@[simp] theorem State.setSound_keys (b : Byte) : (s.setSound b).keys = s.keys := rfl
@[simp] theorem State.setSound_dt (b : Byte) : (s.setSound b).dt = s.dt := rfl
@[simp] theorem State.setSound_st (b : Byte) : (s.setSound b).st = b := rfl
@[simp] theorem State.setSound_redraw (b : Byte) : (s.setSound b).redraw = s.redraw := rfl
@[simp] theorem State.setSound_tone (b : Byte) : (s.setSound b).tone = s.tone := rfl
@[simp] theorem State.setSound_unk (b : Byte) : (s.setSound b).unk = s.unk := rfl
@[simp] theorem State.setSound_unkWord (b : Byte) : (s.setSound b).unkWord = s.unkWord := rfl
@[simp] theorem State.setSound_faultCause (b : Byte) : (s.setSound b).faultCause = s.faultCause := rfl
@[simp] theorem State.setSound_faultInfo (b : Byte) : (s.setSound b).faultInfo = s.faultInfo := rfl
@[simp] theorem State.setSound_rng (b : Byte) : (s.setSound b).rng = s.rng := rfl
@[simp] theorem State.setSound_mode (b : Byte) : (s.setSound b).mode = s.mode := rfl
@[simp] theorem State.setSound_font (b : Byte) : (s.setSound b).font = s.font := rfl
@[simp] theorem State.reg_setSound (b : Byte) (x : Reg) : (s.setSound b).reg x = s.reg x := rfl
@[simp] theorem State.readByte_setSound (b : Byte) (q : Nat) : (s.setSound b).readByte q = s.readByte q := rfl

@[simp] theorem State.setDisplay_v (fb : Framebuffer) : (s.setDisplay fb).v = s.v := rfl
@[simp] theorem State.setDisplay_i (fb : Framebuffer) : (s.setDisplay fb).i = s.i := rfl
@[simp] theorem State.setDisplay_pc (fb : Framebuffer) : (s.setDisplay fb).pc = s.pc := rfl
@[simp] theorem State.setDisplay_sp (fb : Framebuffer) : (s.setDisplay fb).sp = s.sp := rfl
@[simp] theorem State.setDisplay_stack (fb : Framebuffer) : (s.setDisplay fb).stack = s.stack := rfl
@[simp] theorem State.setDisplay_mem (fb : Framebuffer) : (s.setDisplay fb).mem = s.mem := rfl
@[simp] theorem State.setDisplay_fb (fb : Framebuffer) : (s.setDisplay fb).fb = fb := rfl
@[simp] theorem State.setDisplay_keys (fb : Framebuffer) : (s.setDisplay fb).keys = s.keys := rfl
@[simp] theorem State.setDisplay_dt (fb : Framebuffer) : (s.setDisplay fb).dt = s.dt := rfl
@[simp] theorem State.setDisplay_st (fb : Framebuffer) : (s.setDisplay fb).st = s.st := rfl
@[simp] theorem State.setDisplay_redraw (fb : Framebuffer) : (s.setDisplay fb).redraw = true := rfl
@[simp] theorem State.setDisplay_tone (fb : Framebuffer) : (s.setDisplay fb).tone = s.tone := rfl
@[simp] theorem State.setDisplay_unk (fb : Framebuffer) : (s.setDisplay fb).unk = s.unk := rfl
@[simp] theorem State.setDisplay_unkWord (fb : Framebuffer) : (s.setDisplay fb).unkWord = s.unkWord := rfl
@[simp] theorem State.setDisplay_faultCause (fb : Framebuffer) : (s.setDisplay fb).faultCause = s.faultCause := rfl
@[simp] theorem State.setDisplay_faultInfo (fb : Framebuffer) : (s.setDisplay fb).faultInfo = s.faultInfo := rfl
@[simp] theorem State.setDisplay_rng (fb : Framebuffer) : (s.setDisplay fb).rng = s.rng := rfl
@[simp] theorem State.setDisplay_mode (fb : Framebuffer) : (s.setDisplay fb).mode = s.mode := rfl
@[simp] theorem State.setDisplay_font (fb : Framebuffer) : (s.setDisplay fb).font = s.font := rfl
@[simp] theorem State.reg_setDisplay (fb : Framebuffer) (x : Reg) : (s.setDisplay fb).reg x = s.reg x := rfl
@[simp] theorem State.readByte_setDisplay (fb : Framebuffer) (q : Nat) : (s.setDisplay fb).readByte q = s.readByte q := rfl

@[simp] theorem State.writeByte_v (a : Nat) (b : Byte) : (s.writeByte a b).v = s.v := rfl
@[simp] theorem State.writeByte_i (a : Nat) (b : Byte) : (s.writeByte a b).i = s.i := rfl
@[simp] theorem State.writeByte_pc (a : Nat) (b : Byte) : (s.writeByte a b).pc = s.pc := rfl
@[simp] theorem State.writeByte_sp (a : Nat) (b : Byte) : (s.writeByte a b).sp = s.sp := rfl
@[simp] theorem State.writeByte_stack (a : Nat) (b : Byte) : (s.writeByte a b).stack = s.stack := rfl
@[simp] theorem State.writeByte_mem (a : Nat) (b : Byte) : (s.writeByte a b).mem = Memory.write s.font s.mem a b := rfl
@[simp] theorem State.writeByte_fb (a : Nat) (b : Byte) : (s.writeByte a b).fb = s.fb := rfl
@[simp] theorem State.writeByte_keys (a : Nat) (b : Byte) : (s.writeByte a b).keys = s.keys := rfl
@[simp] theorem State.writeByte_dt (a : Nat) (b : Byte) : (s.writeByte a b).dt = s.dt := rfl
@[simp] theorem State.writeByte_st (a : Nat) (b : Byte) : (s.writeByte a b).st = s.st := rfl
@[simp] theorem State.writeByte_redraw (a : Nat) (b : Byte) : (s.writeByte a b).redraw = s.redraw := rfl
@[simp] theorem State.writeByte_tone (a : Nat) (b : Byte) : (s.writeByte a b).tone = s.tone := rfl
@[simp] theorem State.writeByte_unk (a : Nat) (b : Byte) : (s.writeByte a b).unk = s.unk := rfl
@[simp] theorem State.writeByte_unkWord (a : Nat) (b : Byte) : (s.writeByte a b).unkWord = s.unkWord := rfl
@[simp] theorem State.writeByte_faultCause (a : Nat) (b : Byte) : (s.writeByte a b).faultCause = s.faultCause := rfl
@[simp] theorem State.writeByte_faultInfo (a : Nat) (b : Byte) : (s.writeByte a b).faultInfo = s.faultInfo := rfl
@[simp] theorem State.writeByte_rng (a : Nat) (b : Byte) : (s.writeByte a b).rng = s.rng := rfl
@[simp] theorem State.writeByte_mode (a : Nat) (b : Byte) : (s.writeByte a b).mode = s.mode := rfl
@[simp] theorem State.writeByte_font (a : Nat) (b : Byte) : (s.writeByte a b).font = s.font := rfl
@[simp] theorem State.reg_writeByte (a : Nat) (b : Byte) (x : Reg) : (s.writeByte a b).reg x = s.reg x := rfl

@[simp] theorem State.setRegsFrom_v (bytes : List Byte) : (s.setRegsFrom bytes).v = loadFrom s.v 0 bytes := rfl
@[simp] theorem State.setRegsFrom_i (bytes : List Byte) : (s.setRegsFrom bytes).i = s.i := rfl
@[simp] theorem State.setRegsFrom_pc (bytes : List Byte) : (s.setRegsFrom bytes).pc = s.pc := rfl
@[simp] theorem State.setRegsFrom_sp (bytes : List Byte) : (s.setRegsFrom bytes).sp = s.sp := rfl
@[simp] theorem State.setRegsFrom_stack (bytes : List Byte) : (s.setRegsFrom bytes).stack = s.stack := rfl
@[simp] theorem State.setRegsFrom_mem (bytes : List Byte) : (s.setRegsFrom bytes).mem = s.mem := rfl
@[simp] theorem State.setRegsFrom_fb (bytes : List Byte) : (s.setRegsFrom bytes).fb = s.fb := rfl
@[simp] theorem State.setRegsFrom_keys (bytes : List Byte) : (s.setRegsFrom bytes).keys = s.keys := rfl
@[simp] theorem State.setRegsFrom_dt (bytes : List Byte) : (s.setRegsFrom bytes).dt = s.dt := rfl
@[simp] theorem State.setRegsFrom_st (bytes : List Byte) : (s.setRegsFrom bytes).st = s.st := rfl
@[simp] theorem State.setRegsFrom_redraw (bytes : List Byte) : (s.setRegsFrom bytes).redraw = s.redraw := rfl
@[simp] theorem State.setRegsFrom_tone (bytes : List Byte) : (s.setRegsFrom bytes).tone = s.tone := rfl
@[simp] theorem State.setRegsFrom_unk (bytes : List Byte) : (s.setRegsFrom bytes).unk = s.unk := rfl
@[simp] theorem State.setRegsFrom_unkWord (bytes : List Byte) : (s.setRegsFrom bytes).unkWord = s.unkWord := rfl
@[simp] theorem State.setRegsFrom_faultCause (bytes : List Byte) : (s.setRegsFrom bytes).faultCause = s.faultCause := rfl
@[simp] theorem State.setRegsFrom_faultInfo (bytes : List Byte) : (s.setRegsFrom bytes).faultInfo = s.faultInfo := rfl
@[simp] theorem State.setRegsFrom_rng (bytes : List Byte) : (s.setRegsFrom bytes).rng = s.rng := rfl
@[simp] theorem State.setRegsFrom_mode (bytes : List Byte) : (s.setRegsFrom bytes).mode = s.mode := rfl
@[simp] theorem State.setRegsFrom_font (bytes : List Byte) : (s.setRegsFrom bytes).font = s.font := rfl
@[simp] theorem State.readByte_setRegsFrom (bytes : List Byte) (q : Nat) : (s.setRegsFrom bytes).readByte q = s.readByte q := rfl

@[simp] theorem State.setRng_v (r : RngState) : (s.setRng r).v = s.v := rfl
@[simp] theorem State.setRng_i (r : RngState) : (s.setRng r).i = s.i := rfl
@[simp] theorem State.setRng_pc (r : RngState) : (s.setRng r).pc = s.pc := rfl
@[simp] theorem State.setRng_sp (r : RngState) : (s.setRng r).sp = s.sp := rfl
@[simp] theorem State.setRng_stack (r : RngState) : (s.setRng r).stack = s.stack := rfl
@[simp] theorem State.setRng_mem (r : RngState) : (s.setRng r).mem = s.mem := rfl
@[simp] theorem State.setRng_fb (r : RngState) : (s.setRng r).fb = s.fb := rfl
@[simp] theorem State.setRng_keys (r : RngState) : (s.setRng r).keys = s.keys := rfl
@[simp] theorem State.setRng_dt (r : RngState) : (s.setRng r).dt = s.dt := rfl
@[simp] theorem State.setRng_st (r : RngState) : (s.setRng r).st = s.st := rfl
@[simp] theorem State.setRng_redraw (r : RngState) : (s.setRng r).redraw = s.redraw := rfl
@[simp] theorem State.setRng_tone (r : RngState) : (s.setRng r).tone = s.tone := rfl
@[simp] theorem State.setRng_unk (r : RngState) : (s.setRng r).unk = s.unk := rfl
@[simp] theorem State.setRng_unkWord (r : RngState) : (s.setRng r).unkWord = s.unkWord := rfl
@[simp] theorem State.setRng_faultCause (r : RngState) : (s.setRng r).faultCause = s.faultCause := rfl
@[simp] theorem State.setRng_faultInfo (r : RngState) : (s.setRng r).faultInfo = s.faultInfo := rfl
@[simp] theorem State.setRng_rng (r : RngState) : (s.setRng r).rng = r := rfl
@[simp] theorem State.setRng_mode (r : RngState) : (s.setRng r).mode = s.mode := rfl
@[simp] theorem State.setRng_font (r : RngState) : (s.setRng r).font = s.font := rfl
@[simp] theorem State.reg_setRng (r : RngState) (x : Reg) : (s.setRng r).reg x = s.reg x := rfl
@[simp] theorem State.readByte_setRng (r : RngState) (q : Nat) : (s.setRng r).readByte q = s.readByte q := rfl

@[simp] theorem State.signalUnknown_v (op : Word) : (s.signalUnknown op).v = s.v := rfl
@[simp] theorem State.signalUnknown_i (op : Word) : (s.signalUnknown op).i = s.i := rfl
@[simp] theorem State.signalUnknown_pc (op : Word) : (s.signalUnknown op).pc = s.pc := rfl
@[simp] theorem State.signalUnknown_sp (op : Word) : (s.signalUnknown op).sp = s.sp := rfl
@[simp] theorem State.signalUnknown_stack (op : Word) : (s.signalUnknown op).stack = s.stack := rfl
@[simp] theorem State.signalUnknown_mem (op : Word) : (s.signalUnknown op).mem = s.mem := rfl
@[simp] theorem State.signalUnknown_fb (op : Word) : (s.signalUnknown op).fb = s.fb := rfl
@[simp] theorem State.signalUnknown_keys (op : Word) : (s.signalUnknown op).keys = s.keys := rfl
@[simp] theorem State.signalUnknown_dt (op : Word) : (s.signalUnknown op).dt = s.dt := rfl
@[simp] theorem State.signalUnknown_st (op : Word) : (s.signalUnknown op).st = s.st := rfl
@[simp] theorem State.signalUnknown_redraw (op : Word) : (s.signalUnknown op).redraw = s.redraw := rfl
@[simp] theorem State.signalUnknown_tone (op : Word) : (s.signalUnknown op).tone = s.tone := rfl
@[simp] theorem State.signalUnknown_unk (op : Word) : (s.signalUnknown op).unk = true := rfl
@[simp] theorem State.signalUnknown_unkWord (op : Word) : (s.signalUnknown op).unkWord = op := rfl
@[simp] theorem State.signalUnknown_faultCause (op : Word) : (s.signalUnknown op).faultCause = s.faultCause := rfl
@[simp] theorem State.signalUnknown_faultInfo (op : Word) : (s.signalUnknown op).faultInfo = s.faultInfo := rfl
@[simp] theorem State.signalUnknown_rng (op : Word) : (s.signalUnknown op).rng = s.rng := rfl
@[simp] theorem State.signalUnknown_mode (op : Word) : (s.signalUnknown op).mode = s.mode := rfl
@[simp] theorem State.signalUnknown_font (op : Word) : (s.signalUnknown op).font = s.font := rfl
@[simp] theorem State.reg_signalUnknown (op : Word) (x : Reg) : (s.signalUnknown op).reg x = s.reg x := rfl
@[simp] theorem State.readByte_signalUnknown (op : Word) (q : Nat) : (s.signalUnknown op).readByte q = s.readByte q := rfl

@[simp] theorem State.raiseFault_v (c : FaultCause) (w : Word) : (s.raiseFault c w).v = s.v := rfl
@[simp] theorem State.raiseFault_i (c : FaultCause) (w : Word) : (s.raiseFault c w).i = s.i := rfl
@[simp] theorem State.raiseFault_pc (c : FaultCause) (w : Word) : (s.raiseFault c w).pc = s.pc := rfl
@[simp] theorem State.raiseFault_sp (c : FaultCause) (w : Word) : (s.raiseFault c w).sp = s.sp := rfl
@[simp] theorem State.raiseFault_stack (c : FaultCause) (w : Word) : (s.raiseFault c w).stack = s.stack := rfl
@[simp] theorem State.raiseFault_mem (c : FaultCause) (w : Word) : (s.raiseFault c w).mem = s.mem := rfl
@[simp] theorem State.raiseFault_fb (c : FaultCause) (w : Word) : (s.raiseFault c w).fb = s.fb := rfl
@[simp] theorem State.raiseFault_keys (c : FaultCause) (w : Word) : (s.raiseFault c w).keys = s.keys := rfl
@[simp] theorem State.raiseFault_dt (c : FaultCause) (w : Word) : (s.raiseFault c w).dt = s.dt := rfl
@[simp] theorem State.raiseFault_st (c : FaultCause) (w : Word) : (s.raiseFault c w).st = s.st := rfl
@[simp] theorem State.raiseFault_redraw (c : FaultCause) (w : Word) : (s.raiseFault c w).redraw = s.redraw := rfl
@[simp] theorem State.raiseFault_tone (c : FaultCause) (w : Word) : (s.raiseFault c w).tone = s.tone := rfl
@[simp] theorem State.raiseFault_unk (c : FaultCause) (w : Word) : (s.raiseFault c w).unk = s.unk := rfl
@[simp] theorem State.raiseFault_unkWord (c : FaultCause) (w : Word) : (s.raiseFault c w).unkWord = s.unkWord := rfl
@[simp] theorem State.raiseFault_faultCause (c : FaultCause) (w : Word) : (s.raiseFault c w).faultCause = c := rfl
@[simp] theorem State.raiseFault_faultInfo (c : FaultCause) (w : Word) : (s.raiseFault c w).faultInfo = w := rfl
@[simp] theorem State.raiseFault_rng (c : FaultCause) (w : Word) : (s.raiseFault c w).rng = s.rng := rfl
@[simp] theorem State.raiseFault_mode (c : FaultCause) (w : Word) : (s.raiseFault c w).mode = s.mode := rfl
@[simp] theorem State.raiseFault_font (c : FaultCause) (w : Word) : (s.raiseFault c w).font = s.font := rfl
@[simp] theorem State.reg_raiseFault (c : FaultCause) (w : Word) (x : Reg) : (s.raiseFault c w).reg x = s.reg x := rfl
@[simp] theorem State.readByte_raiseFault (c : FaultCause) (w : Word) (q : Nat) : (s.raiseFault c w).readByte q = s.readByte q := rfl

@[simp] theorem State.setKey_v (k : Key) (p : Bool) : (s.setKey k p).v = s.v := rfl
@[simp] theorem State.setKey_i (k : Key) (p : Bool) : (s.setKey k p).i = s.i := rfl
@[simp] theorem State.setKey_pc (k : Key) (p : Bool) : (s.setKey k p).pc = s.pc := rfl
@[simp] theorem State.setKey_sp (k : Key) (p : Bool) : (s.setKey k p).sp = s.sp := rfl
@[simp] theorem State.setKey_stack (k : Key) (p : Bool) : (s.setKey k p).stack = s.stack := rfl
@[simp] theorem State.setKey_mem (k : Key) (p : Bool) : (s.setKey k p).mem = s.mem := rfl
@[simp] theorem State.setKey_fb (k : Key) (p : Bool) : (s.setKey k p).fb = s.fb := rfl
@[simp] theorem State.setKey_keys (k : Key) (p : Bool) : (s.setKey k p).keys = s.keys.set k p := rfl
@[simp] theorem State.setKey_dt (k : Key) (p : Bool) : (s.setKey k p).dt = s.dt := rfl
@[simp] theorem State.setKey_st (k : Key) (p : Bool) : (s.setKey k p).st = s.st := rfl
@[simp] theorem State.setKey_redraw (k : Key) (p : Bool) : (s.setKey k p).redraw = s.redraw := rfl
@[simp] theorem State.setKey_tone (k : Key) (p : Bool) : (s.setKey k p).tone = s.tone := rfl
@[simp] theorem State.setKey_unk (k : Key) (p : Bool) : (s.setKey k p).unk = s.unk := rfl
@[simp] theorem State.setKey_unkWord (k : Key) (p : Bool) : (s.setKey k p).unkWord = s.unkWord := rfl
@[simp] theorem State.setKey_faultCause (k : Key) (p : Bool) : (s.setKey k p).faultCause = s.faultCause := rfl
@[simp] theorem State.setKey_faultInfo (k : Key) (p : Bool) : (s.setKey k p).faultInfo = s.faultInfo := rfl
@[simp] theorem State.setKey_rng (k : Key) (p : Bool) : (s.setKey k p).rng = s.rng := rfl
@[simp] theorem State.setKey_mode (k : Key) (p : Bool) : (s.setKey k p).mode = s.mode := rfl
@[simp] theorem State.setKey_font (k : Key) (p : Bool) : (s.setKey k p).font = s.font := rfl
@[simp] theorem State.reg_setKey (k : Key) (p : Bool) (x : Reg) : (s.setKey k p).reg x = s.reg x := rfl
@[simp] theorem State.readByte_setKey (k : Key) (p : Bool) (q : Nat) : (s.setKey k p).readByte q = s.readByte q := rfl

@[simp] theorem State.clearRedraw_v : (s.clearRedraw).v = s.v := rfl
@[simp] theorem State.clearRedraw_i : (s.clearRedraw).i = s.i := rfl
@[simp] theorem State.clearRedraw_pc : (s.clearRedraw).pc = s.pc := rfl
@[simp] theorem State.clearRedraw_sp : (s.clearRedraw).sp = s.sp := rfl
@[simp] theorem State.clearRedraw_stack : (s.clearRedraw).stack = s.stack := rfl
@[simp] theorem State.clearRedraw_mem : (s.clearRedraw).mem = s.mem := rfl
@[simp] theorem State.clearRedraw_fb : (s.clearRedraw).fb = s.fb := rfl
@[simp] theorem State.clearRedraw_keys : (s.clearRedraw).keys = s.keys := rfl
@[simp] theorem State.clearRedraw_dt : (s.clearRedraw).dt = s.dt := rfl
@[simp] theorem State.clearRedraw_st : (s.clearRedraw).st = s.st := rfl
@[simp] theorem State.clearRedraw_redraw : (s.clearRedraw).redraw = false := rfl
@[simp] theorem State.clearRedraw_tone : (s.clearRedraw).tone = s.tone := rfl
@[simp] theorem State.clearRedraw_unk : (s.clearRedraw).unk = s.unk := rfl
@[simp] theorem State.clearRedraw_unkWord : (s.clearRedraw).unkWord = s.unkWord := rfl
@[simp] theorem State.clearRedraw_faultCause : (s.clearRedraw).faultCause = s.faultCause := rfl
@[simp] theorem State.clearRedraw_faultInfo : (s.clearRedraw).faultInfo = s.faultInfo := rfl
@[simp] theorem State.clearRedraw_rng : (s.clearRedraw).rng = s.rng := rfl
@[simp] theorem State.clearRedraw_mode : (s.clearRedraw).mode = s.mode := rfl
@[simp] theorem State.clearRedraw_font : (s.clearRedraw).font = s.font := rfl
@[simp] theorem State.reg_clearRedraw (x : Reg) : (s.clearRedraw).reg x = s.reg x := rfl
@[simp] theorem State.readByte_clearRedraw (q : Nat) : (s.clearRedraw).readByte q = s.readByte q := rfl

@[simp] theorem State.clearTone_v : (s.clearTone).v = s.v := rfl
@[simp] theorem State.clearTone_i : (s.clearTone).i = s.i := rfl
@[simp] theorem State.clearTone_pc : (s.clearTone).pc = s.pc := rfl
@[simp] theorem State.clearTone_sp : (s.clearTone).sp = s.sp := rfl
@[simp] theorem State.clearTone_stack : (s.clearTone).stack = s.stack := rfl
@[simp] theorem State.clearTone_mem : (s.clearTone).mem = s.mem := rfl
@[simp] theorem State.clearTone_fb : (s.clearTone).fb = s.fb := rfl
@[simp] theorem State.clearTone_keys : (s.clearTone).keys = s.keys := rfl
@[simp] theorem State.clearTone_dt : (s.clearTone).dt = s.dt := rfl
@[simp] theorem State.clearTone_st : (s.clearTone).st = s.st := rfl
@[simp] theorem State.clearTone_redraw : (s.clearTone).redraw = s.redraw := rfl
@[simp] theorem State.clearTone_tone : (s.clearTone).tone = false := rfl
@[simp] theorem State.clearTone_unk : (s.clearTone).unk = s.unk := rfl
@[simp] theorem State.clearTone_unkWord : (s.clearTone).unkWord = s.unkWord := rfl
@[simp] theorem State.clearTone_faultCause : (s.clearTone).faultCause = s.faultCause := rfl
@[simp] theorem State.clearTone_faultInfo : (s.clearTone).faultInfo = s.faultInfo := rfl
@[simp] theorem State.clearTone_rng : (s.clearTone).rng = s.rng := rfl
@[simp] theorem State.clearTone_mode : (s.clearTone).mode = s.mode := rfl
@[simp] theorem State.clearTone_font : (s.clearTone).font = s.font := rfl
@[simp] theorem State.reg_clearTone (x : Reg) : (s.clearTone).reg x = s.reg x := rfl
@[simp] theorem State.readByte_clearTone (q : Nat) : (s.clearTone).readByte q = s.readByte q := rfl

@[simp] theorem State.clearUnknown_v : (s.clearUnknown).v = s.v := rfl
@[simp] theorem State.clearUnknown_i : (s.clearUnknown).i = s.i := rfl
@[simp] theorem State.clearUnknown_pc : (s.clearUnknown).pc = s.pc := rfl
@[simp] theorem State.clearUnknown_sp : (s.clearUnknown).sp = s.sp := rfl
@[simp] theorem State.clearUnknown_stack : (s.clearUnknown).stack = s.stack := rfl
@[simp] theorem State.clearUnknown_mem : (s.clearUnknown).mem = s.mem := rfl
@[simp] theorem State.clearUnknown_fb : (s.clearUnknown).fb = s.fb := rfl
@[simp] theorem State.clearUnknown_keys : (s.clearUnknown).keys = s.keys := rfl
@[simp] theorem State.clearUnknown_dt : (s.clearUnknown).dt = s.dt := rfl
@[simp] theorem State.clearUnknown_st : (s.clearUnknown).st = s.st := rfl
@[simp] theorem State.clearUnknown_redraw : (s.clearUnknown).redraw = s.redraw := rfl
@[simp] theorem State.clearUnknown_tone : (s.clearUnknown).tone = s.tone := rfl
@[simp] theorem State.clearUnknown_unk : (s.clearUnknown).unk = false := rfl
@[simp] theorem State.clearUnknown_unkWord : (s.clearUnknown).unkWord = s.unkWord := rfl
@[simp] theorem State.clearUnknown_faultCause : (s.clearUnknown).faultCause = s.faultCause := rfl
@[simp] theorem State.clearUnknown_faultInfo : (s.clearUnknown).faultInfo = s.faultInfo := rfl
@[simp] theorem State.clearUnknown_rng : (s.clearUnknown).rng = s.rng := rfl
@[simp] theorem State.clearUnknown_mode : (s.clearUnknown).mode = s.mode := rfl
@[simp] theorem State.clearUnknown_font : (s.clearUnknown).font = s.font := rfl
@[simp] theorem State.reg_clearUnknown (x : Reg) : (s.clearUnknown).reg x = s.reg x := rfl
@[simp] theorem State.readByte_clearUnknown (q : Nat) : (s.clearUnknown).readByte q = s.readByte q := rfl

/-! The updates that are not one record update: byte sequences, the block transfers' index, the timer steps. -/

@[simp] theorem State.writeBytes_v (a : Nat) (bytes : List Byte) : (s.writeBytes a bytes).v = s.v := by
  induction bytes generalizing s a with
  | nil => rfl
  | cons b rest ih => simp only [State.writeBytes, ih, State.writeByte_v]
@[simp] theorem State.writeBytes_i (a : Nat) (bytes : List Byte) : (s.writeBytes a bytes).i = s.i := by
  induction bytes generalizing s a with
  | nil => rfl
  | cons b rest ih => simp only [State.writeBytes, ih, State.writeByte_i]
@[simp] theorem State.writeBytes_pc (a : Nat) (bytes : List Byte) : (s.writeBytes a bytes).pc = s.pc := by
  induction bytes generalizing s a with
  | nil => rfl
  | cons b rest ih => simp only [State.writeBytes, ih, State.writeByte_pc]
@[simp] theorem State.writeBytes_sp (a : Nat) (bytes : List Byte) : (s.writeBytes a bytes).sp = s.sp := by
  induction bytes generalizing s a with
  | nil => rfl
  | cons b rest ih => simp only [State.writeBytes, ih, State.writeByte_sp]
@[simp] theorem State.writeBytes_stack (a : Nat) (bytes : List Byte) : (s.writeBytes a bytes).stack = s.stack := by
  induction bytes generalizing s a with
  | nil => rfl
  | cons b rest ih => simp only [State.writeBytes, ih, State.writeByte_stack]
@[simp] theorem State.writeBytes_fb (a : Nat) (bytes : List Byte) : (s.writeBytes a bytes).fb = s.fb := by
  induction bytes generalizing s a with
  | nil => rfl
  | cons b rest ih => simp only [State.writeBytes, ih, State.writeByte_fb]
@[simp] theorem State.writeBytes_keys (a : Nat) (bytes : List Byte) : (s.writeBytes a bytes).keys = s.keys := by
  induction bytes generalizing s a with
  | nil => rfl
  | cons b rest ih => simp only [State.writeBytes, ih, State.writeByte_keys]
@[simp] theorem State.writeBytes_dt (a : Nat) (bytes : List Byte) : (s.writeBytes a bytes).dt = s.dt := by
  induction bytes generalizing s a with
  | nil => rfl
  | cons b rest ih => simp only [State.writeBytes, ih, State.writeByte_dt]
@[simp] theorem State.writeBytes_st (a : Nat) (bytes : List Byte) : (s.writeBytes a bytes).st = s.st := by
  induction bytes generalizing s a with
  | nil => rfl
  | cons b rest ih => simp only [State.writeBytes, ih, State.writeByte_st]
@[simp] theorem State.writeBytes_redraw (a : Nat) (bytes : List Byte) : (s.writeBytes a bytes).redraw = s.redraw := by
  induction bytes generalizing s a with
  | nil => rfl
  | cons b rest ih => simp only [State.writeBytes, ih, State.writeByte_redraw]
@[simp] theorem State.writeBytes_tone (a : Nat) (bytes : List Byte) : (s.writeBytes a bytes).tone = s.tone := by
  induction bytes generalizing s a with
  | nil => rfl
  | cons b rest ih => simp only [State.writeBytes, ih, State.writeByte_tone]
@[simp] theorem State.writeBytes_unk (a : Nat) (bytes : List Byte) : (s.writeBytes a bytes).unk = s.unk := by
  induction bytes generalizing s a with
  | nil => rfl
  | cons b rest ih => simp only [State.writeBytes, ih, State.writeByte_unk]
@[simp] theorem State.writeBytes_unkWord (a : Nat) (bytes : List Byte) : (s.writeBytes a bytes).unkWord = s.unkWord := by
  induction bytes generalizing s a with
  | nil => rfl
  | cons b rest ih => simp only [State.writeBytes, ih, State.writeByte_unkWord]
@[simp] theorem State.writeBytes_faultCause (a : Nat) (bytes : List Byte) : (s.writeBytes a bytes).faultCause = s.faultCause := by
  induction bytes generalizing s a with
  | nil => rfl
  | cons b rest ih => simp only [State.writeBytes, ih, State.writeByte_faultCause]
@[simp] theorem State.writeBytes_faultInfo (a : Nat) (bytes : List Byte) : (s.writeBytes a bytes).faultInfo = s.faultInfo := by
  induction bytes generalizing s a with
  | nil => rfl
  | cons b rest ih => simp only [State.writeBytes, ih, State.writeByte_faultInfo]
@[simp] theorem State.writeBytes_rng (a : Nat) (bytes : List Byte) : (s.writeBytes a bytes).rng = s.rng := by
  induction bytes generalizing s a with
  | nil => rfl
  | cons b rest ih => simp only [State.writeBytes, ih, State.writeByte_rng]
@[simp] theorem State.writeBytes_mode (a : Nat) (bytes : List Byte) : (s.writeBytes a bytes).mode = s.mode := by
  induction bytes generalizing s a with
  | nil => rfl
  | cons b rest ih => simp only [State.writeBytes, ih, State.writeByte_mode]
@[simp] theorem State.writeBytes_font (a : Nat) (bytes : List Byte) : (s.writeBytes a bytes).font = s.font := by
  induction bytes generalizing s a with
  | nil => rfl
  | cons b rest ih => simp only [State.writeBytes, ih, State.writeByte_font]
@[simp] theorem State.reg_writeBytes (a : Nat) (bytes : List Byte) (x : Reg) : (s.writeBytes a bytes).reg x = s.reg x := by
  simp [State.reg]

@[simp] theorem State.blockIndex_v (n : Nat) : (s.blockIndex n).v = s.v := by
  unfold State.blockIndex; split <;> rfl
@[simp] theorem State.blockIndex_pc (n : Nat) : (s.blockIndex n).pc = s.pc := by
  unfold State.blockIndex; split <;> rfl
@[simp] theorem State.blockIndex_sp (n : Nat) : (s.blockIndex n).sp = s.sp := by
  unfold State.blockIndex; split <;> rfl
@[simp] theorem State.blockIndex_stack (n : Nat) : (s.blockIndex n).stack = s.stack := by
  unfold State.blockIndex; split <;> rfl
@[simp] theorem State.blockIndex_mem (n : Nat) : (s.blockIndex n).mem = s.mem := by
  unfold State.blockIndex; split <;> rfl
@[simp] theorem State.blockIndex_fb (n : Nat) : (s.blockIndex n).fb = s.fb := by
  unfold State.blockIndex; split <;> rfl
@[simp] theorem State.blockIndex_keys (n : Nat) : (s.blockIndex n).keys = s.keys := by
  unfold State.blockIndex; split <;> rfl
@[simp] theorem State.blockIndex_dt (n : Nat) : (s.blockIndex n).dt = s.dt := by
  unfold State.blockIndex; split <;> rfl
@[simp] theorem State.blockIndex_st (n : Nat) : (s.blockIndex n).st = s.st := by
  unfold State.blockIndex; split <;> rfl
@[simp] theorem State.blockIndex_redraw (n : Nat) : (s.blockIndex n).redraw = s.redraw := by
  unfold State.blockIndex; split <;> rfl
@[simp] theorem State.blockIndex_tone (n : Nat) : (s.blockIndex n).tone = s.tone := by
  unfold State.blockIndex; split <;> rfl
@[simp] theorem State.blockIndex_unk (n : Nat) : (s.blockIndex n).unk = s.unk := by
  unfold State.blockIndex; split <;> rfl
@[simp] theorem State.blockIndex_unkWord (n : Nat) : (s.blockIndex n).unkWord = s.unkWord := by
  unfold State.blockIndex; split <;> rfl
@[simp] theorem State.blockIndex_faultCause (n : Nat) : (s.blockIndex n).faultCause = s.faultCause := by
  unfold State.blockIndex; split <;> rfl
@[simp] theorem State.blockIndex_faultInfo (n : Nat) : (s.blockIndex n).faultInfo = s.faultInfo := by
  unfold State.blockIndex; split <;> rfl
@[simp] theorem State.blockIndex_rng (n : Nat) : (s.blockIndex n).rng = s.rng := by
  unfold State.blockIndex; split <;> rfl
@[simp] theorem State.blockIndex_mode (n : Nat) : (s.blockIndex n).mode = s.mode := by
  unfold State.blockIndex; split <;> rfl
@[simp] theorem State.blockIndex_font (n : Nat) : (s.blockIndex n).font = s.font := by
  unfold State.blockIndex; split <;> rfl
theorem State.blockIndex_i (n : Nat) :
    (s.blockIndex n).i = if s.mode = .modern then s.i else s.i + BitVec.ofNat 16 n := by
  unfold State.blockIndex; split <;> simp_all
@[simp] theorem State.reg_blockIndex (n : Nat) (x : Reg) : (s.blockIndex n).reg x = s.reg x := by simp [State.reg]
@[simp] theorem State.readByte_blockIndex (n q : Nat) : (s.blockIndex n).readByte q = s.readByte q := by
  simp [State.readByte]

@[simp] theorem State.tickDelay_v : s.tickDelay.v = s.v := by
  unfold State.tickDelay; split <;> rfl
@[simp] theorem State.tickDelay_i : s.tickDelay.i = s.i := by
  unfold State.tickDelay; split <;> rfl
@[simp] theorem State.tickDelay_pc : s.tickDelay.pc = s.pc := by
  unfold State.tickDelay; split <;> rfl
@[simp] theorem State.tickDelay_sp : s.tickDelay.sp = s.sp := by
  unfold State.tickDelay; split <;> rfl
@[simp] theorem State.tickDelay_stack : s.tickDelay.stack = s.stack := by
  unfold State.tickDelay; split <;> rfl
@[simp] theorem State.tickDelay_mem : s.tickDelay.mem = s.mem := by
  unfold State.tickDelay; split <;> rfl
@[simp] theorem State.tickDelay_fb : s.tickDelay.fb = s.fb := by
  unfold State.tickDelay; split <;> rfl
@[simp] theorem State.tickDelay_keys : s.tickDelay.keys = s.keys := by
  unfold State.tickDelay; split <;> rfl
theorem State.tickDelay_dt : s.tickDelay.dt = if s.dt = 0 then 0 else s.dt - 1 := by
  unfold State.tickDelay; split <;> simp_all
@[simp] theorem State.tickDelay_st : s.tickDelay.st = s.st := by
  unfold State.tickDelay; split <;> rfl
@[simp] theorem State.tickDelay_redraw : s.tickDelay.redraw = s.redraw := by
  unfold State.tickDelay; split <;> rfl
@[simp] theorem State.tickDelay_tone : s.tickDelay.tone = s.tone := by
  unfold State.tickDelay; split <;> rfl
@[simp] theorem State.tickDelay_unk : s.tickDelay.unk = s.unk := by
  unfold State.tickDelay; split <;> rfl
@[simp] theorem State.tickDelay_unkWord : s.tickDelay.unkWord = s.unkWord := by
  unfold State.tickDelay; split <;> rfl
@[simp] theorem State.tickDelay_faultCause : s.tickDelay.faultCause = s.faultCause := by
  unfold State.tickDelay; split <;> rfl
@[simp] theorem State.tickDelay_faultInfo : s.tickDelay.faultInfo = s.faultInfo := by
  unfold State.tickDelay; split <;> rfl
@[simp] theorem State.tickDelay_rng : s.tickDelay.rng = s.rng := by
  unfold State.tickDelay; split <;> rfl
@[simp] theorem State.tickDelay_mode : s.tickDelay.mode = s.mode := by
  unfold State.tickDelay; split <;> rfl
@[simp] theorem State.tickDelay_font : s.tickDelay.font = s.font := by
  unfold State.tickDelay; split <;> rfl
@[simp] theorem State.tickSound_v : s.tickSound.v = s.v := by
  unfold State.tickSound; split <;> rfl
@[simp] theorem State.tickSound_i : s.tickSound.i = s.i := by
  unfold State.tickSound; split <;> rfl
@[simp] theorem State.tickSound_pc : s.tickSound.pc = s.pc := by
  unfold State.tickSound; split <;> rfl
@[simp] theorem State.tickSound_sp : s.tickSound.sp = s.sp := by
  unfold State.tickSound; split <;> rfl
@[simp] theorem State.tickSound_stack : s.tickSound.stack = s.stack := by
  unfold State.tickSound; split <;> rfl
@[simp] theorem State.tickSound_mem : s.tickSound.mem = s.mem := by
  unfold State.tickSound; split <;> rfl
@[simp] theorem State.tickSound_fb : s.tickSound.fb = s.fb := by
  unfold State.tickSound; split <;> rfl
@[simp] theorem State.tickSound_keys : s.tickSound.keys = s.keys := by
  unfold State.tickSound; split <;> rfl
@[simp] theorem State.tickSound_dt : s.tickSound.dt = s.dt := by
  unfold State.tickSound; split <;> rfl
theorem State.tickSound_st : s.tickSound.st = if s.st = 0 then 0 else s.st - 1 := by
  unfold State.tickSound; split <;> simp_all
@[simp] theorem State.tickSound_redraw : s.tickSound.redraw = s.redraw := by
  unfold State.tickSound; split <;> rfl
theorem State.tickSound_tone : s.tickSound.tone = (s.tone || s.st == 1) := by
  have one : s.st - 1 = 0 ↔ s.st = 1 := by bv_omega
  by_cases h0 : s.st = 0
  · simp [State.tickSound, h0]
  · by_cases h1 : s.st = 1
    · simp [State.tickSound, h1]
    · have h2 : s.st - 1 ≠ 0 := fun h => h1 (one.mp h)
      have e1 : (s.st == 1) = false := by simpa using h1
      have e2 : (s.st - 1 == 0) = false := by simpa using h2
      simp only [State.tickSound, if_neg h0, e1, e2]
@[simp] theorem State.tickSound_unk : s.tickSound.unk = s.unk := by
  unfold State.tickSound; split <;> rfl
@[simp] theorem State.tickSound_unkWord : s.tickSound.unkWord = s.unkWord := by
  unfold State.tickSound; split <;> rfl
@[simp] theorem State.tickSound_faultCause : s.tickSound.faultCause = s.faultCause := by
  unfold State.tickSound; split <;> rfl
@[simp] theorem State.tickSound_faultInfo : s.tickSound.faultInfo = s.faultInfo := by
  unfold State.tickSound; split <;> rfl
@[simp] theorem State.tickSound_rng : s.tickSound.rng = s.rng := by
  unfold State.tickSound; split <;> rfl
@[simp] theorem State.tickSound_mode : s.tickSound.mode = s.mode := by
  unfold State.tickSound; split <;> rfl
@[simp] theorem State.tickSound_font : s.tickSound.font = s.font := by
  unfold State.tickSound; split <;> rfl
@[simp] theorem State.reg_tickDelay (x : Reg) : s.tickDelay.reg x = s.reg x := by simp [State.reg]
@[simp] theorem State.readByte_tickDelay (q : Nat) : s.tickDelay.readByte q = s.readByte q := by simp [State.readByte]
@[simp] theorem State.reg_tickSound (x : Reg) : s.tickSound.reg x = s.reg x := by simp [State.reg]
@[simp] theorem State.readByte_tickSound (q : Nat) : s.tickSound.readByte q = s.readByte q := by simp [State.readByte]

/-! The reset that ends a fault (rules R311, R312). -/

@[simp] theorem State.resetCore_mode : s.resetCore.mode = s.mode := rfl
@[simp] theorem State.resetCore_font : s.resetCore.font = s.font := rfl
@[simp] theorem State.resetCore_rng : s.resetCore.rng = s.rng := rfl
@[simp] theorem State.resetCore_mem : s.resetCore.mem = [] := rfl
@[simp] theorem State.resetCore_pc : s.resetCore.pc = 0x200 := rfl
@[simp] theorem State.resetCore_faultCause : s.resetCore.faultCause = .noFault := rfl

/-! The register file. -/

theorem State.reg_setReg (r : Reg) (b : Byte) (x : Reg) : (s.setReg r b).reg x = if x = r then b else s.reg x := by
  simp only [State.reg, State.setReg, Fin.getElem_fin, Vector.getElem_set, Fin.val_inj, eq_comm]

@[simp] theorem State.reg_setReg_same (r : Reg) (b : Byte) : (s.setReg r b).reg r = b := by
  simp [State.reg_setReg]

theorem State.reg_setReg_other (r x : Reg) (b : Byte) (h : x ≠ r) : (s.setReg r b).reg x = s.reg x := by
  simp [State.reg_setReg, h]

theorem State.reg_setFlag (f : Bool) (x : Reg) : (s.setFlag f).reg x = if x = vf then flagByte f else s.reg x :=
  s.reg_setReg vf (flagByte f) x

theorem State.faulted_eq_false : s.faulted = false ↔ s.faultCause = .noFault := by
  simp [State.faulted]

theorem State.faulted_eq_true : s.faulted = true ↔ s.faultCause ≠ .noFault := by
  simp [State.faulted]

end Sys2Proof.Machine
end

