-- ==== Sys2Proof/Laws/Ops.lean ====
section
/-!
SUPPORT. One lemma per shared operation that says all it can do; provers cite it instead of unfolding the operation.
-/

namespace Sys2Proof.Machine

/-! Memory. -/

theorem State.readByte_writeByte (s : State) (a q : Nat) (b : Byte) :
    (s.writeByte a b).readByte q = if q = a then b else s.readByte q :=
  Memory.read_write s.font s.mem a q b

theorem State.readByte_writeBytes (s : State) (a q : Nat) (bytes : List Byte) :
    (s.writeBytes a bytes).readByte q =
      if a ≤ q ∧ q < a + bytes.length then bytes.getD (q - a) 0 else s.readByte q := by
  induction bytes generalizing s a with
  | nil => simp [State.writeBytes]
  | cons b rest ih =>
    rw [State.writeBytes, ih, State.readByte_writeByte]
    by_cases h1 : q = a
    · subst h1; simp
    · by_cases h2 : a + 1 ≤ q ∧ q < a + 1 + rest.length
      · have h3 : a ≤ q ∧ q < a + (b :: rest).length := by simp only [List.length_cons]; omega
        have h4 : q - a = (q - (a + 1)) + 1 := by omega
        rw [if_pos h2, if_pos h3, h4, List.getD_cons_succ]
      · have h3 : ¬ (a ≤ q ∧ q < a + (b :: rest).length) := by simp only [List.length_cons]; omega
        rw [if_neg h2, if_neg h1, if_neg h3]

theorem State.wf_writeBytes (s : State) (a : Nat) (bytes : List Byte) (hm : Memory.wf s.font s.mem = true)
    (ha : a + bytes.length ≤ Config.memorySize) :
    Memory.wf (s.writeBytes a bytes).font (s.writeBytes a bytes).mem = true := by
  induction bytes generalizing s a with
  | nil => exact hm
  | cons b rest ih =>
    rw [List.length_cons] at ha
    exact ih (s.writeByte a b) (a + 1) (Memory.wf_write s.font s.mem a b hm (by omega)) (by omega)

@[simp] theorem State.length_readBytes (s : State) (a n : Nat) : (s.readBytes a n).length = n := by
  simp [State.readBytes]

theorem State.getD_readBytes (s : State) (a n k : Nat) (h : k < n) : (s.readBytes a n).getD k 0 = s.readByte (a + k) := by
  simp [State.readBytes, List.getD_eq_getElem?_getD, h]

/-! The register block (rules R194, R195). -/

@[simp] theorem State.length_regsUpTo (s : State) (x : Reg) : (s.regsUpTo x).length = x.val + 1 := by
  simp [State.regsUpTo]

theorem State.getD_regsUpTo (s : State) (x r : Reg) (h : r ≤ x) : (s.regsUpTo x).getD r.val 0 = s.reg r := by
  have h' : r.val < x.val + 1 := by have := Fin.le_def.mp h; omega
  simp [State.regsUpTo, State.reg, List.getD_eq_getElem?_getD, h']

theorem getElem_loadFrom (v : Vector Byte 16) (k : Nat) (bytes : List Byte) (j : Nat) (hj : j < 16) :
    (loadFrom v k bytes)[j] = if k ≤ j ∧ j < k + bytes.length then bytes.getD (j - k) 0 else v[j] := by
  induction bytes generalizing v k with
  | nil => simp [loadFrom]
  | cons b rest ih =>
    rw [loadFrom, ih, Vector.getElem_setIfInBounds]
    by_cases h1 : k = j
    · subst h1; simp
    · by_cases h2 : k + 1 ≤ j ∧ j < k + 1 + rest.length
      · have h3 : k ≤ j ∧ j < k + (b :: rest).length := by simp only [List.length_cons]; omega
        have h4 : j - k = (j - (k + 1)) + 1 := by omega
        rw [if_pos h2, if_pos h3, h4, List.getD_cons_succ]
      · have h3 : ¬ (k ≤ j ∧ j < k + (b :: rest).length) := by simp only [List.length_cons]; omega
        rw [if_neg h2, if_neg h1, if_neg h3]

theorem State.reg_setRegsFrom (s : State) (bytes : List Byte) (r : Reg) :
    (s.setRegsFrom bytes).reg r = if r.val < bytes.length then bytes.getD r.val 0 else s.reg r := by
  simp [State.reg, State.setRegsFrom, getElem_loadFrom]

/-! The call stack (rules R28, R141, R142). -/

theorem State.push?_eq_none (s : State) (w : Word) : s.push? w = none ↔ s.sp.val = 16 := by
  unfold State.push?; split
  · simp; omega
  · simp; omega

/-- What a push that succeeds does. -/
theorem State.push?_eq_some (s t : State) (w : Word) (h : s.push? w = some t) :
    s.sp.val < 16 ∧ t.sp.val = s.sp.val + 1 ∧ (∀ j : Fin 16, t.stack[j] = if j.val = s.sp.val then w else s.stack[j]) ∧
      t = { s with sp := t.sp, stack := t.stack } := by
  unfold State.push? at h; split at h
  · next hs =>
    cases h
    exact ⟨hs, rfl, fun j => by simp [Vector.getElem_set, eq_comm], rfl⟩
  · cases h

theorem State.pop?_eq_none (s : State) : s.pop? = none ↔ s.sp.val = 0 := by
  unfold State.pop?; split
  · simp; omega
  · simp; omega

/-- What a pop that succeeds does. -/
theorem State.pop?_eq_some (s t : State) (w : Word) (h : s.pop? = some (w, t)) :
    ∃ j : Fin 16, j.val + 1 = s.sp.val ∧ w = s.stack[j] ∧ t.sp.val = j.val ∧ t = { s with sp := t.sp } := by
  unfold State.pop? at h; split at h
  · next hs =>
    cases h
    exact ⟨⟨s.sp.val - 1, by omega⟩, by simp; omega, rfl, rfl, rfl⟩
  · cases h

/-! The keys (rule R252). -/

theorem State.mem_pressedKeys (s : State) (k : Key) : k ∈ s.pressedKeys ↔ s.keys[k] = true := by
  simp [State.pressedKeys]

theorem selectKey_eq_none (p : List Key) : selectKey p = none ↔ p = [] := by
  match p with
  | [] => simp [selectKey]
  | [k] => simp [selectKey]
  | k :: k' :: rest =>
    simp only [selectKey, List.getElem?_eq_none_iff, not_le.mpr (Nat.mod_lt _ (by simp : 0 < (k :: k' :: rest).length))]
    simp

/-- `KEY_SELECT` names a pressed key. -/
theorem selectKey_mem (p : List Key) (k : Key) (h : selectKey p = some k) : k ∈ p := by
  match p with
  | [] => simp [selectKey] at h
  | [k'] => simp [selectKey] at h; simp [h]
  | k' :: k'' :: rest => exact List.mem_of_getElem? h

theorem State.keyDown_of_lt (s : State) (k : Key) : s.keyDown k.val = s.keys[k] := by
  simp [State.keyDown]

/-! Faults and the data range (rules R67, R276). -/

theorem State.outOfRange_iff (s : State) (m : Nat) : s.outOfRange m = true ↔ 0 < m ∧ s.i.toNat + m - 1 > 0xFFF := by
  simp [State.outOfRange]

theorem State.withDataRange_ok (s t : State) (m : Nat) (h : m = 0 ∨ s.i.toNat + m - 1 ≤ 0xFFF) :
    s.withDataRange m t = .next t := by
  have : s.outOfRange m = false := by
    rw [Bool.eq_false_iff, ne_eq, State.outOfRange_iff]; omega
  simp [State.withDataRange, this]

theorem State.withDataRange_fault (s t : State) (m : Nat) (h : 0 < m ∧ s.i.toNat + m - 1 > 0xFFF) :
    s.withDataRange m t = .next (s.raiseFault .dataOutOfRange s.i) := by
  simp [State.withDataRange, (s.outOfRange_iff m).mpr h]

/-! The end of a cycle (rules R120, R125). -/

theorem State.endCycle_of_fault (s : State) (h : s.faultCause ≠ .noFault) : s.endCycle = s := by
  simp [State.endCycle, State.faulted, h]

theorem State.endCycle_of_noFault (s : State) (h : s.faultCause = .noFault) : s.endCycle = s.tickDelay.tickSound := by
  simp [State.endCycle, State.faulted, h]

end Sys2Proof.Machine
end

