-- ==== Sys2Proof/Laws/PerInstr.lean ====
section
/-!
SUPPORT. Statements for all instructions, one lemma per constructor. RoundTrip: decoding the word of a well-formed
instruction gives the instruction back.
-/

namespace Sys2Proof.Laws.RoundTrip

open Sys2Proof Sys2Proof.Machine

/-- Decoding undoes encoding on a well-formed instruction (rules R94, R96). -/
def Statement (i : Instr) : Prop := WellFormed i = true → decodeWord (encode i) = i

theorem cls : Statement .cls := fun _ => rfl

theorem ret : Statement .ret := fun _ => rfl

theorem sys (nnn : BitVec 12) : Statement (.sys nnn) := by
  intro h
  have hf := toNat_wordNNN 0#4 nnn
  have h1 : wordNNN 0#4 nnn ≠ 0x00E0#16 := fun e => by
    have e := congrArg BitVec.toNat e
    simp only [WellFormed, Bool.and_eq_true, bne_iff_ne, ne_eq, ← BitVec.toNat_inj] at h
    simp at hf e h
    omega
  have h2 : wordNNN 0#4 nnn ≠ 0x00EE#16 := fun e => by
    have e := congrArg BitVec.toNat e
    simp only [WellFormed, Bool.and_eq_true, bne_iff_ne, ne_eq, ← BitVec.toNat_inj] at h
    simp at hf e h
    omega
  simp [decodeWord, encode, h1, h2]

theorem jp (nnn : BitVec 12) : Statement (.jp nnn) := fun _ => by simp [decodeWord, encode]

theorem call (nnn : BitVec 12) : Statement (.call nnn) := fun _ => by simp [decodeWord, encode]

theorem seImm (x : Reg) (nn : Byte) : Statement (.seImm x nn) := fun _ => by simp [decodeWord, encode]

theorem sneImm (x : Reg) (nn : Byte) : Statement (.sneImm x nn) := fun _ => by simp [decodeWord, encode]

theorem seReg (x y : Reg) : Statement (.seReg x y) := fun _ => by simp [decodeWord, encode]

theorem ldImm (x : Reg) (nn : Byte) : Statement (.ldImm x nn) := fun _ => by simp [decodeWord, encode]

theorem addImm (x : Reg) (nn : Byte) : Statement (.addImm x nn) := fun _ => by simp [decodeWord, encode]

theorem ldReg (x y : Reg) : Statement (.ldReg x y) := fun _ => by simp [decodeWord, encode, decodeFamily8]

theorem orReg (x y : Reg) : Statement (.orReg x y) := fun _ => by simp [decodeWord, encode, decodeFamily8]

theorem andReg (x y : Reg) : Statement (.andReg x y) := fun _ => by simp [decodeWord, encode, decodeFamily8]

theorem xorReg (x y : Reg) : Statement (.xorReg x y) := fun _ => by simp [decodeWord, encode, decodeFamily8]

theorem addReg (x y : Reg) : Statement (.addReg x y) := fun _ => by simp [decodeWord, encode, decodeFamily8]

theorem subReg (x y : Reg) : Statement (.subReg x y) := fun _ => by simp [decodeWord, encode, decodeFamily8]

theorem shr (x y : Reg) : Statement (.shr x y) := fun _ => by simp [decodeWord, encode, decodeFamily8]

theorem subnReg (x y : Reg) : Statement (.subnReg x y) := fun _ => by simp [decodeWord, encode, decodeFamily8]

theorem shl (x y : Reg) : Statement (.shl x y) := fun _ => by simp [decodeWord, encode, decodeFamily8]

theorem sneReg (x y : Reg) : Statement (.sneReg x y) := fun _ => by simp [decodeWord, encode]

theorem ldI (nnn : BitVec 12) : Statement (.ldI nnn) := fun _ => by simp [decodeWord, encode]

theorem jpV0 (nnn : BitVec 12) : Statement (.jpV0 nnn) := fun _ => by simp [decodeWord, encode]

theorem rnd (x : Reg) (nn : Byte) : Statement (.rnd x nn) := fun _ => by simp [decodeWord, encode]

theorem drw (x y : Reg) (n : BitVec 4) : Statement (.drw x y n) := fun _ => by simp [decodeWord, encode]

theorem skp (x : Reg) : Statement (.skp x) := fun _ => by simp [decodeWord, encode, decodeFamilyE]

theorem sknp (x : Reg) : Statement (.sknp x) := fun _ => by simp [decodeWord, encode, decodeFamilyE]

theorem ldVxDt (x : Reg) : Statement (.ldVxDt x) := fun _ => by simp [decodeWord, encode, decodeFamilyF]

theorem ldVxK (x : Reg) : Statement (.ldVxK x) := fun _ => by simp [decodeWord, encode, decodeFamilyF]

theorem ldDtVx (x : Reg) : Statement (.ldDtVx x) := fun _ => by simp [decodeWord, encode, decodeFamilyF]

theorem ldStVx (x : Reg) : Statement (.ldStVx x) := fun _ => by simp [decodeWord, encode, decodeFamilyF]

theorem addI (x : Reg) : Statement (.addI x) := fun _ => by simp [decodeWord, encode, decodeFamilyF]

theorem ldF (x : Reg) : Statement (.ldF x) := fun _ => by simp [decodeWord, encode, decodeFamilyF]

theorem ldB (x : Reg) : Statement (.ldB x) := fun _ => by simp [decodeWord, encode, decodeFamilyF]

theorem storeRegs (x : Reg) : Statement (.storeRegs x) := fun _ => by simp [decodeWord, encode, decodeFamilyF]

theorem loadRegs (x : Reg) : Statement (.loadRegs x) := fun _ => by simp [decodeWord, encode, decodeFamilyF]

theorem unknown (w : Word) : Statement (.unknown w) := by
  intro h
  simp only [WellFormed, noRow] at h
  simp only [encode, decodeWord]
  split at h
  · next hf => simp_all
  · next hf =>
    simp only [List.mem_cons, List.not_mem_nil, or_false, decide_eq_true_eq] at h
    rcases h with h | h | h | h | h | h | h <;> simp [hf, h, decodeFamily8]
  · next hf => simp_all
  · next hf => simp_all [decodeFamilyE]
  · next hf => simp_all [decodeFamilyF]
  · cases h

end Sys2Proof.Laws.RoundTrip
end

