-- ==== Sys2Proof/Laws/Step.lean ====
section
/-!
SUPPORT. What one step can do, once: every invariant of a step is a case analysis over `step_cases`.
-/

namespace Sys2Proof.Machine

/-- A fetch is out of range exactly when `PC > 0xFFE` (rule R66). -/
theorem State.fetchOutOfRange_iff (s : State) : s.fetchOutOfRange = true ↔ s.pc.toNat > 0xFFE := decide_eq_true_iff

/-- The three ways a step answers a next state (rule R120): frozen, a fetch fault, or an executed instruction. -/
theorem step_cases (s u : State) (h : step s = .next u) :
    (s.faultCause ≠ .noFault ∧ u = s) ∨
    (s.faultCause = .noFault ∧ s.pc.toNat > 0xFFE ∧ u = s.raiseFault .fetchOutOfRange s.pc) ∨
    (s.faultCause = .noFault ∧ s.pc.toNat ≤ 0xFFE ∧ ∃ t, exec (decodeWord s.fetchWord) s = .next t ∧ u = t.endCycle) := by
  unfold step at h
  split at h
  · next hf => cases h; exact .inl ⟨s.faulted_eq_true.mp hf, rfl⟩
  · next hf =>
    have hf := s.faulted_eq_false.mp (by simpa using hf)
    split at h
    · next hp => cases h; exact .inr (.inl ⟨hf, s.fetchOutOfRange_iff.mp hp, rfl⟩)
    · next hp =>
      refine .inr (.inr ⟨hf, by have := s.fetchOutOfRange_iff.not.mp hp; omega, ?_⟩)
      split at h
      · next t ht => cases h; exact ⟨t, ht, rfl⟩
      · cases h
      · cases h

/-- A step that fetches runs the instruction it decodes (rule R120). -/
theorem step_of_exec (s t : State) (hf : s.faultCause = .noFault) (hp : s.pc.toNat ≤ 0xFFE)
    (h : exec (decodeWord s.fetchWord) s = .next t) : step s = .next t.endCycle := by
  have hp' : s.fetchOutOfRange = false := decide_eq_false (by omega)
  simp [step, s.faulted_eq_false.mpr hf, hp', h]

end Sys2Proof.Machine
end

