-- ==== Sys2Proof/Tests/Slice0.lean ====
section
/-!
SUPPORT. The model's own tests. Expected results come from the spec: the encodings of rule R96 written out by hand, the
vectors of 95_test_vectors.md (named in each comment), and the worked examples of the rules. Then one witness for every
obligation with hypotheses: a concrete state and operands that meet them.
-/

namespace Sys2Proof.Tests

open Sys2Proof Sys2Proof.Machine

/-! ### Well-formedness: an ill-formed term for each check, refused -/

theorem test_wf_refuses_sys_00E0 : WellFormed (.sys 0x0E0) = false := by decide
theorem test_wf_refuses_sys_00EE : WellFormed (.sys 0x0EE) = false := by decide
theorem test_wf_refuses_unknown_that_is_a_jump : WellFormed (.unknown 0x1234) = false := by decide
theorem test_wf_refuses_unknown_that_is_a_skip : WellFormed (.unknown 0x5120) = false := by decide
theorem test_wf_accepts_sys : WellFormed (.sys 0x123) = true := by decide
theorem test_wf_accepts_unknown : WellFormed (.unknown 0x5121) = true := by decide

/-! ### Decoding: a word of every row, written out from the map of rule R96 -/

theorem test_decode_cls : decodeWord 0b0000000011100000 = .cls := by decide
theorem test_decode_ret : decodeWord 0b0000000011101110 = .ret := by decide
theorem test_decode_sys : decodeWord 0b0000000100100011 = .sys 0x123 := by decide
theorem test_decode_jp : decodeWord 0b0001101010111100 = .jp 0xABC := by decide
theorem test_decode_call : decodeWord 0b0010001100000001 = .call 0x301 := by decide
theorem test_decode_seImm : decodeWord 0b0011001101000010 = .seImm 3 0x42 := by decide
theorem test_decode_sneImm : decodeWord 0b0100001101000010 = .sneImm 3 0x42 := by decide
theorem test_decode_seReg : decodeWord 0b0101000100100000 = .seReg 1 2 := by decide
theorem test_decode_ldImm : decodeWord 0b0110101000000111 = .ldImm 10 7 := by decide
theorem test_decode_addImm : decodeWord 0b0111000100000101 = .addImm 1 5 := by decide
theorem test_decode_ldReg : decodeWord 0b1000000100100000 = .ldReg 1 2 := by decide
theorem test_decode_orReg : decodeWord 0b1000000100100001 = .orReg 1 2 := by decide
theorem test_decode_andReg : decodeWord 0b1000000100100010 = .andReg 1 2 := by decide
theorem test_decode_xorReg : decodeWord 0b1000000100100011 = .xorReg 1 2 := by decide
theorem test_decode_addReg : decodeWord 0b1000000100100100 = .addReg 1 2 := by decide
theorem test_decode_subReg : decodeWord 0b1000000100100101 = .subReg 1 2 := by decide
theorem test_decode_shr : decodeWord 0b1000000100100110 = .shr 1 2 := by decide
theorem test_decode_subnReg : decodeWord 0b1000000100100111 = .subnReg 1 2 := by decide
theorem test_decode_shl : decodeWord 0b1000000100101110 = .shl 1 2 := by decide
theorem test_decode_sneReg : decodeWord 0b1001000100100000 = .sneReg 1 2 := by decide
theorem test_decode_ldI : decodeWord 0b1010000100100011 = .ldI 0x123 := by decide
theorem test_decode_jpV0 : decodeWord 0b1011001100000000 = .jpV0 0x300 := by decide
theorem test_decode_rnd : decodeWord 0b1100001100001111 = .rnd 3 0x0F := by decide
theorem test_decode_drw : decodeWord 0b1101001101000101 = .drw 3 4 5 := by decide
theorem test_decode_skp : decodeWord 0b1110000110011110 = .skp 1 := by decide
theorem test_decode_sknp : decodeWord 0b1110000110100001 = .sknp 1 := by decide
theorem test_decode_ldVxDt : decodeWord 0b1111001100000111 = .ldVxDt 3 := by decide
theorem test_decode_ldVxK : decodeWord 0b1111001100001010 = .ldVxK 3 := by decide
theorem test_decode_ldDtVx : decodeWord 0b1111001100010101 = .ldDtVx 3 := by decide
theorem test_decode_ldStVx : decodeWord 0b1111001100011000 = .ldStVx 3 := by decide
theorem test_decode_addI : decodeWord 0b1111000100011110 = .addI 1 := by decide
theorem test_decode_ldF : decodeWord 0b1111000000101001 = .ldF 0 := by decide
theorem test_decode_ldB : decodeWord 0b1111001000110011 = .ldB 2 := by decide
theorem test_decode_storeRegs : decodeWord 0b1111001001010101 = .storeRegs 2 := by decide
theorem test_decode_loadRegs : decodeWord 0b1111001001100101 = .loadRegs 2 := by decide

/-- Vectors UK1 to UK10: words with no handler. -/
theorem test_decode_unknown :
    decodeWord 0x0000 = .sys 0x000 ∧ decodeWord 0x00E1 = .sys 0x0E1 ∧ decodeWord 0x01E0 = .sys 0x1E0 ∧
    decodeWord 0x5121 = .unknown 0x5121 ∧ decodeWord 0x912F = .unknown 0x912F ∧ decodeWord 0x8128 = .unknown 0x8128 ∧
    decodeWord 0xE19F = .unknown 0xE19F ∧ decodeWord 0xF300 = .unknown 0xF300 ∧ decodeWord 0xFFFF = .unknown 0xFFFF := by
  decide

/-- Rule R62: 12 34 are the bytes of 0x1234; one byte is no instruction. -/
theorem test_decode_bytes :
    decodeBytes [0x12, 0x34, 0x56] = .ok (.jp 0x234, [0x56]) ∧ decodeBytes [0x12] = .error .truncated := ⟨rfl, rfl⟩

/-! ### Configuration codes and the font -/

/-- Rules R40, R277. -/
theorem test_codes :
    [Mode.legacy, .intermediate, .modern].map Mode.code = [0, 1, 2] ∧ Mode.ofCode 3 = none ∧
    [FaultCause.noFault, .fetchOutOfRange, .dataOutOfRange, .stackOverflow, .stackUnderflow, .keyIndexOutOfRange].map
      FaultCause.code = [0, 1, 2, 3, 4, 5] := by decide

/-- Rule R31: glyph A at 0x082, the last byte at 0x09F. -/
theorem test_font_in_memory :
    State.reset.readBytes 0x082 5 = [0xF0, 0x90, 0xF0, 0x90, 0x90] ∧ State.reset.readByte 0x09F = 0x80 ∧
    State.reset.readByte 0x0A0 = 0 ∧ State.reset.readByte 0x04F = 0 := by decide

/-! ### Instructions, one cycle each -/

/-- Whether a result is a next state with a property. -/
def after (o : Result) (p : State → Bool) : Bool :=
  match o with
  | .next t => p t
  | .fault _ => false
  | .refused _ => false

/-- A state with registers preset. -/
def preset (s : State) (regs : List (Reg × Byte)) : State := regs.foldl (fun t p => t.setReg p.1 p.2) s

/-- One cycle of a word placed at the program counter. -/
def cycleOf (s : State) (w : Nat) : Result := step (s.withFetchWord 16 w)

/-- The reset state in a mode, with registers preset. -/
def start (m : Mode) (regs : List (Reg × Byte)) : State := preset { State.reset with mode := m } regs

/-- S1. -/
theorem test_cls : after (cycleOf { start .modern [] with fb := (Framebuffer.clear.flip 777).flip 2047 } 0x00E0)
    (fun t => !t.fb.cell 777 && !t.fb.cell 2047 && t.redraw && t.pc == 0x202) = true := by decide
/-- CF5. -/
theorem test_ret : after (cycleOf { start .modern [] with pc := 0x300, sp := 1, stack := (Vector.replicate 16 0).set 0 0x204 } 0x00EE)
    (fun t => t.sp == 0 && t.pc == 0x206 && t.stack[0] == 0x204) = true := by decide
/-- CF6: the fault writes its record only; the timers do not tick. -/
theorem test_ret_underflow : after (cycleOf { start .modern [] with dt := 5 } 0x00EE)
    (fun t => t.faultCause == .stackUnderflow && t.faultInfo == 0x200 && t.pc == 0x200 && t.dt == 5) = true := by decide
/-- UK4, TM8. -/
theorem test_sys : after (cycleOf { start .modern [] with dt := 5 } 0x0123)
    (fun t => t.unk && t.unkWord == 0x0123 && t.pc == 0x202 && t.dt == 4) = true := by decide
/-- CF1. -/
theorem test_jp : after (cycleOf (start .modern []) 0x1ABC) (fun t => t.pc == 0xABC) = true := by decide
/-- CF4. -/
theorem test_call : after (cycleOf { start .modern [] with pc := 0x204 } 0x2300)
    (fun t => t.stack[0] == 0x204 && t.sp == 1 && t.pc == 0x300) = true := by decide
/-- CF7, cycle 17. -/
theorem test_call_overflow : after (cycleOf { start .modern [] with sp := 16 } 0x2200)
    (fun t => t.faultCause == .stackOverflow && t.faultInfo == 0x200 && t.sp == 16) = true := by decide
/-- CF8, CF9. -/
theorem test_seImm : after (cycleOf (start .modern [(3, 0x42)]) 0x3342) (fun t => t.pc == 0x204) &&
    after (cycleOf (start .modern [(3, 0x42)]) 0x3343) (fun t => t.pc == 0x202) = true := by decide
/-- CF10, CF11. -/
theorem test_sneImm : after (cycleOf (start .modern [(3, 0x42)]) 0x4342) (fun t => t.pc == 0x202) &&
    after (cycleOf (start .modern [(3, 0x42)]) 0x4343) (fun t => t.pc == 0x204) = true := by decide
/-- CF12, CF13. -/
theorem test_seReg : after (cycleOf (start .modern [(1, 9), (2, 9)]) 0x5120) (fun t => t.pc == 0x204) &&
    after (cycleOf (start .modern [(1, 9), (2, 8)]) 0x5120) (fun t => t.pc == 0x202) = true := by decide
/-- CF15, CF16. -/
theorem test_sneReg : after (cycleOf (start .modern [(1, 9), (2, 8)]) 0x9120) (fun t => t.pc == 0x204) &&
    after (cycleOf (start .modern [(1, 9)]) 0x9110) (fun t => t.pc == 0x202) = true := by decide
/-- S2. -/
theorem test_ldImm : after (cycleOf (start .modern []) 0x6A07) (fun t => t.reg 10 == 7 && t.pc == 0x202) = true := by decide
/-- AL3, AL3b. -/
theorem test_addImm : after (cycleOf (start .modern [(1, 0xFF)]) 0x7101) (fun t => t.reg 1 == 0 && t.reg 15 == 0) &&
    after (cycleOf (start .modern [(15, 0xFF)]) 0x7F01) (fun t => t.reg 15 == 0) = true := by decide
/-- AL4. -/
theorem test_ldReg : after (cycleOf (start .modern [(2, 0x5A), (15, 7)]) 0x8120) (fun t => t.reg 1 == 0x5A && t.reg 15 == 7) = true := by
  decide
/-- AL4a. -/
theorem test_orReg : after (cycleOf (start .modern [(1, 0xF0), (2, 0x0F), (15, 7)]) 0x8121)
    (fun t => t.reg 1 == 0xFF && t.reg 15 == 7) = true := by decide
/-- AL4b. -/
theorem test_andReg : after (cycleOf (start .modern [(1, 0xF0), (2, 0x3C), (15, 7)]) 0x8122)
    (fun t => t.reg 1 == 0x30 && t.reg 15 == 7) = true := by decide
/-- AL4c. -/
theorem test_xorReg : after (cycleOf (start .modern [(1, 0xFF), (2, 0x0F), (15, 7)]) 0x8123)
    (fun t => t.reg 1 == 0xF0 && t.reg 15 == 7) = true := by decide
/-- AL7. -/
theorem test_addReg : after (cycleOf (start .modern [(1, 0xFF), (2, 0xFF)]) 0x8124)
    (fun t => t.reg 1 == 0xFE && t.reg 15 == 1) = true := by decide
/-- AL13: X = F keeps the flag. -/
theorem test_addReg_into_VF : after (cycleOf (start .modern [(15, 0xF0), (1, 0x20)]) 0x8F14)
    (fun t => t.reg 15 == 1 && t.reg 1 == 0x20) = true := by decide
/-- AL9. -/
theorem test_subReg : after (cycleOf (start .modern [(1, 3), (2, 5)]) 0x8125)
    (fun t => t.reg 1 == 0xFE && t.reg 15 == 0) = true := by decide
/-- AL10: equal operands are no borrow. -/
theorem test_subReg_equal : after (cycleOf (start .modern [(1, 7), (2, 7)]) 0x8125)
    (fun t => t.reg 1 == 0 && t.reg 15 == 1) = true := by decide
/-- AL11, AL12. -/
theorem test_subnReg : after (cycleOf (start .modern [(1, 3), (2, 5)]) 0x8127) (fun t => t.reg 1 == 2 && t.reg 15 == 1) &&
    after (cycleOf (start .modern [(1, 5), (2, 3)]) 0x8127) (fun t => t.reg 1 == 0xFE && t.reg 15 == 0) = true := by decide
/-- AL19. -/
theorem test_shr_legacy : after (cycleOf (start .legacy [(1, 0x81), (2, 6)]) 0x8126)
    (fun t => t.reg 1 == 3 && t.reg 15 == 0 && t.reg 2 == 6) = true := by decide
/-- AL18. -/
theorem test_shr_in_place : after (cycleOf (start .intermediate [(1, 0x81), (2, 6)]) 0x8126)
    (fun t => t.reg 1 == 0x40 && t.reg 15 == 1) &&
    after (cycleOf (start .modern [(1, 0x81), (2, 6)]) 0x8126) (fun t => t.reg 1 == 0x40 && t.reg 15 == 1) = true := by decide
/-- AL23, AL24. -/
theorem test_shl_legacy : after (cycleOf (start .legacy [(1, 0x81), (2, 6)]) 0x812E) (fun t => t.reg 1 == 0x0C && t.reg 15 == 0) &&
    after (cycleOf (start .legacy [(2, 0xC0)]) 0x812E) (fun t => t.reg 1 == 0x80 && t.reg 15 == 1) = true := by decide
/-- AL22. -/
theorem test_shl_in_place : after (cycleOf (start .modern [(1, 0x81), (2, 6)]) 0x812E)
    (fun t => t.reg 1 == 2 && t.reg 15 == 1) = true := by decide
/-- S3. -/
theorem test_ldI : after (cycleOf (start .modern []) 0xA123) (fun t => t.i == 0x123 && t.pc == 0x202) = true := by decide
/-- CF18. -/
theorem test_jpV0 : after (cycleOf (start .modern [(0, 0xFF)]) 0xBFFF) (fun t => t.pc == 0x10FE) = true := by decide
/-- RN1, with the injected bytes A7 5C. -/
theorem test_rnd : after (cycleOf (construct .modern defaultFont (.sequence [0xA7, 0x5C])) 0xC30F)
    (fun t => t.reg 3 == 7 && t.rng.injected == [0x5C] && t.rng.drawn == 1) = true := by decide
/-- DR2: the linear wrap. -/
theorem test_drw_wrap : after (cycleOf ({ start .modern [(1, 62)] with i := 0x300 }.writeByte 0x300 0xFF) 0xD121)
    (fun t => [62, 63, 64, 65, 66, 67, 68, 69].all t.fb.cell && !t.fb.cell 0 && t.reg 15 == 0 && t.redraw) = true := by decide
/-- DR14: X = Y = F are read before VF is cleared. -/
theorem test_drw_reads_VF_first : after (cycleOf ({ start .modern [(15, 1)] with i := 0x300 }.writeByte 0x300 0x80) 0xDFF1)
    (fun t => t.fb.cell 65 && t.reg 15 == 0) = true := by decide
/-- KY1, KY2. -/
theorem test_skp : after (cycleOf ((start .modern [(1, 5)]).setKey 5 true) 0xE19E) (fun t => t.pc == 0x204) &&
    after (cycleOf (start .modern [(1, 5)]) 0xE19E) (fun t => t.pc == 0x202) = true := by decide
/-- KY5. -/
theorem test_skp_fault : after (cycleOf (start .modern [(1, 0x10)]) 0xE19E)
    (fun t => t.faultCause == .keyIndexOutOfRange && t.faultInfo == 0x10 && t.pc == 0x200) = true := by decide
/-- KY3, KY4. -/
theorem test_sknp : after (cycleOf ((start .modern [(1, 5)]).setKey 5 true) 0xE1A1) (fun t => t.pc == 0x202) &&
    after (cycleOf (start .modern [(1, 5)]) 0xE1A1) (fun t => t.pc == 0x204) = true := by decide
/-- TM1. -/
theorem test_ldVxDt : after (cycleOf { start .modern [] with dt := 0x2A } 0xF307)
    (fun t => t.reg 3 == 0x2A && t.dt == 0x29) = true := by decide
/-- KY8. -/
theorem test_ldVxK : after (cycleOf ((start .modern []).setKey 7 true) 0xF30A) (fun t => t.reg 3 == 7 && t.pc == 0x202) = true := by
  decide
/-- TM7, KY7. -/
theorem test_ldVxK_waits : after (cycleOf { start .modern [] with dt := 3 } 0xF30A)
    (fun t => t.reg 3 == 0 && t.pc == 0x200 && t.dt == 2) = true := by decide
/-- Rule R231's example. -/
theorem test_ldDtVx : after (cycleOf (start .modern [(3, 10)]) 0xF315) (fun t => t.dt == 9) = true := by decide
/-- TM4, TM5. -/
theorem test_ldStVx : after (cycleOf (start .modern [(3, 1)]) 0xF318) (fun t => t.st == 0 && t.tone) &&
    after (cycleOf (start .modern [(3, 2)]) 0xF318) (fun t => t.st == 1 && !t.tone) = true := by decide
/-- IM3, IM5b. -/
theorem test_addI : after (cycleOf { start .modern [(1, 1)] with i := 0xFFF } 0xF11E) (fun t => t.i == 0x1000 && t.reg 15 == 1) &&
    after (cycleOf { start .modern [(1, 1)] with i := 0xFFFF } 0xF11E) (fun t => t.i == 0 && t.reg 15 == 1) = true := by decide
/-- IM5: X = F. -/
theorem test_addI_of_VF : after (cycleOf { start .modern [(15, 3)] with i := 0x100 } 0xFF1E)
    (fun t => t.i == 0x103 && t.reg 15 == 0) = true := by decide
/-- IM7, IM8. -/
theorem test_ldF : after (cycleOf (start .modern [(0, 0x0A)]) 0xF029) (fun t => t.i == 0x82) &&
    after (cycleOf (start .modern [(0, 0xFF)]) 0xF029) (fun t => t.i == 0x54B) = true := by decide
/-- IM9. -/
theorem test_ldB : after (cycleOf { start .modern [(2, 254)] with i := 0x300 } 0xF233)
    (fun t => t.readBytes 0x300 3 == [2, 5, 4] && t.i == 0x300) = true := by decide
/-- IM15. -/
theorem test_ldB_fault : after (cycleOf { start .modern [(0, 255)] with i := 0xFFE } 0xF033)
    (fun t => t.faultCause == .dataOutOfRange && t.faultInfo == 0xFFE && t.readByte 0xFFE == 0) = true := by decide
/-- IM16, IM17. -/
theorem test_storeRegs :
    after (cycleOf { start .legacy [(0, 1), (1, 2), (2, 3)] with i := 0x300 } 0xF255)
      (fun t => t.readBytes 0x300 4 == [1, 2, 3, 0] && t.i == 0x303) &&
    after (cycleOf { start .modern [(0, 1), (1, 2), (2, 3)] with i := 0x300 } 0xF255)
      (fun t => t.readBytes 0x300 4 == [1, 2, 3, 0] && t.i == 0x300) = true := by decide
/-- IM25: the font can be overwritten; IM21: the last byte. -/
theorem test_storeRegs_edges :
    after (cycleOf { start .modern [] with i := 0x50 } 0xF055) (fun t => t.readByte 0x50 == 0) &&
    after (cycleOf { start .legacy [] with i := 0xFFF } 0xF055) (fun t => t.i == 0x1000 && t.faultCause == .noFault) = true := by decide
/-- IM18. -/
theorem test_loadRegs : after (cycleOf ({ start .intermediate [] with i := 0x300 }.writeBytes 0x300 [0x0A, 0x0B, 0x0C, 0x0D]) 0xF265)
    (fun t => t.reg 0 == 0x0A && t.reg 1 == 0x0B && t.reg 2 == 0x0C && t.reg 3 == 0 && t.i == 0x303) = true := by decide
/-- IM24. -/
theorem test_loadRegs_fault : after (cycleOf { start .modern [(0, 9)] with i := 0xFFF } 0xF165)
    (fun t => t.faultCause == .dataOutOfRange && t.reg 0 == 9) = true := by decide
/-- S6. -/
theorem test_unknown : after (cycleOf (start .modern []) 0xFFFF) (fun t => t.unk && t.unkWord == 0xFFFF && t.pc == 0x202) = true := by
  decide

/-! ### The cycle, reset, loading -/

/-- LD6. -/
theorem test_first_cycle_of_empty_memory : after (step State.reset)
    (fun t => t.unk && t.unkWord == 0 && t.pc == 0x202 && t.faultCause == .noFault) = true := by decide
/-- S5. -/
theorem test_timers_run_out : after (cycleOf { start .modern [] with dt := 1, st := 1 } 0x6000)
    (fun t => t.dt == 0 && t.st == 0 && t.tone) = true := by decide
/-- FT5. -/
theorem test_fetch_fault : after (step { start .modern [] with pc := 0xFFF })
    (fun t => t.faultCause == .fetchOutOfRange && t.faultInfo == 0xFFF) = true := by decide
/-- FT4. -/
theorem test_fetch_at_the_last_word : after (cycleOf { start .modern [] with pc := 0xFFE } 0x6000)
    (fun t => t.pc == 0x1000 && t.faultCause == .noFault) = true := by decide
/-- LD3, LD4. -/
theorem test_load : (match State.reset.loadProgram [] with | .error e => e == .romEmpty | .ok _ => false) &&
    (match State.reset.loadProgram [0x12, 0x34, 0x56] with
      | .ok t => t.readBytes 0x200 4 == [0x12, 0x34, 0x56, 0] | .error _ => false) = true := by decide

/-! ### Witnesses: the hypotheses of the obligations can be met -/

/-- ResetLeavesTheStatedValues: addresses on both sides of the font. -/
theorem witness_reset_addresses : State.reset.resetCore.readByte 0x04F = 0 ∧ State.reset.resetCore.readByte 0x050 = 0xF0 ∧
    State.reset.resetCore.readByte 0x09F = 0x80 ∧ State.reset.resetCore.readByte 0x0A0 = 0 ∧
    State.reset.resetCore.fb.cell 2047 = false := by decide

/-- DecodeUndoesEncode. -/
theorem witness_wellformed : WellFormed (.sys 0xFFF) = true ∧ WellFormed (.unknown 0xFFFF) = true ∧
    WellFormed (.drw 15 15 15) = true := by decide

/-- StepRunsTheFetchedInstruction, first for an instruction that raises no fault. -/
theorem witness_step_next : ∃ t, WellFormed (.ldImm 10 7) = true ∧ (start .modern []).faultCause = .noFault ∧
    ((start .modern []).withFetchWord 16 0x6A07).pc.toNat ≤ 0xFFE ∧
    (((start .modern []).withFetchWord 16 0x6A07).readByte 0x200).toNat * 0x100 +
      (((start .modern []).withFetchWord 16 0x6A07).readByte 0x201).toNat = (encode (.ldImm 10 7)).toNat ∧
    exec (.ldImm 10 7) ((start .modern []).withFetchWord 16 0x6A07) = .next t ∧ t.faultCause = .noFault :=
  ⟨_, by decide, by decide, by decide, by decide, rfl, by decide⟩

/-- StepRunsTheFetchedInstruction, for one that raises a fault (and FaultsArePrecise). -/
theorem witness_step_fault : ∃ t, WellFormed .ret = true ∧
    (((start .modern []).withFetchWord 16 0x00EE).readByte 0x200).toNat * 0x100 +
      (((start .modern []).withFetchWord 16 0x00EE).readByte 0x201).toNat = (encode .ret).toNat ∧
    exec .ret ((start .modern []).withFetchWord 16 0x00EE) = .next t ∧ t.faultCause ≠ .noFault ∧
    step ((start .modern []).withFetchWord 16 0x00EE) = .next t :=
  ⟨_, by decide, by decide, rfl, by decide, rfl⟩

/-- StepRunsAPlacedWord: the last place a word fits. -/
theorem witness_placed_word : ({ start .modern [] with pc := 0xFFE } : State).faultCause = .noFault ∧
    ({ start .modern [] with pc := 0xFFE } : State).pc.toNat ≤ 0xFFE := by decide

/-- FetchOutsideMemoryFaults, at the first such `PC`. -/
theorem witness_fetch_fault : ({ start .modern [] with pc := 0xFFF } : State).faultCause = .noFault ∧
    ({ start .modern [] with pc := 0xFFF } : State).pc.toNat > 0xFFE ∧
    ({ start .modern [] with pc := 0xFFE } : State).pc.toNat ≤ 0xFFE := by decide

/-- FaultedCoreIsFrozen. -/
theorem witness_faulted : (State.reset.raiseFault .stackUnderflow 0x200).faultCause ≠ .noFault := by decide

/-- TimerSetTicksInItsOwnCycle, both clauses. -/
theorem witness_timer_set : decodeWord ((start .modern [(3, 1)]).withFetchWord 16 0xF315).fetchWord = .ldDtVx 3 ∧
    decodeWord ((start .modern [(3, 1)]).withFetchWord 16 0xF318).fetchWord = .ldStVx 3 := by decide

/-- CallPushesItsOwnAddress and CallThenReturnResumesAfterTheCall: the sixteenth push, and the full stack. -/
theorem witness_call : ({ State.reset with sp := 15 } : State).sp.val < 16 ∧ ({ State.reset with sp := 16 } : State).sp.val = 16 := by
  decide

/-- ReturnResumesAfterThePoppedCall: a full stack, one entry, none. -/
theorem witness_ret : ({ State.reset with sp := 16 } : State).sp.val = (15 : Fin 16).val + 1 ∧
    ({ State.reset with sp := 1 } : State).sp.val = (0 : Fin 16).val + 1 ∧ State.reset.sp.val = 0 := by decide

/-- AddSetsCarry and SubtractSetsNoBorrow: a destination other than VF. -/
theorem witness_other_than_VF : (1 : Reg) ≠ vf := by decide

/-- ShiftsByModeSetTheBitShiftedOut: Legacy and another mode. -/
theorem witness_shift_source :
    6 = (if (start .legacy [(1, 0x81), (2, 6)]).mode = .legacy then ((start .legacy [(1, 0x81), (2, 6)]).reg 2).toNat
      else ((start .legacy [(1, 0x81), (2, 6)]).reg 1).toNat) ∧
    0x81 = (if (start .modern [(1, 0x81), (2, 6)]).mode = .legacy then ((start .modern [(1, 0x81), (2, 6)]).reg 2).toNat
      else ((start .modern [(1, 0x81), (2, 6)]).reg 1).toNat) := by decide

/-- BcdStoresThreeDigits: the last place that fits, and the first that does not. -/
theorem witness_bcd : ({ State.reset with i := 0xFFD } : State).i.toNat + 2 ≤ 0xFFF ∧
    ({ State.reset with i := 0xFFE } : State).i.toNat + 2 > 0xFFF := by decide

/-- BlockStore, BlockLoad, BlockLoadUndoesBlockStore: the same for sixteen registers, and each mode. -/
theorem witness_block : ({ State.reset with i := 0xFF0 } : State).i.toNat + (15 : Reg).val ≤ 0xFFF ∧
    ({ State.reset with i := 0xFF1 } : State).i.toNat + (15 : Reg).val > 0xFFF ∧ (0 : Reg) ≤ 15 ∧
    State.reset.mode = .modern ∧ (start .legacy []).mode = .legacy ∧ (start .intermediate []).mode = .intermediate := by decide

/-- BlockLoadUndoesBlockStore: a state with the bytes the store left. -/
theorem witness_block_restore : ∃ t u : State, exec (.storeRegs 2) { State.reset with i := 0x300 } = .next t ∧
    (∀ a, u.readByte a = t.readByte a) ∧ u.i = 0x300 := ⟨_, _, rfl, fun _ => rfl, rfl⟩

/-- DrawXorsTheTargetedCells: no rows at any `I`, the last row that fits, the first that does not. -/
theorem witness_draw : (0 : BitVec 4).toNat = 0 ∧
    ({ State.reset with i := 0xFFF } : State).i.toNat + (1 : BitVec 4).toNat - 1 ≤ 0xFFF ∧
    ((2 : BitVec 4).toNat > 0 ∧ ({ State.reset with i := 0xFFF } : State).i.toNat + (2 : BitVec 4).toNat - 1 > 0xFFF) := by decide

/-- DrawXorsTheTargetedCells, DrawTwiceRestoresTheScreen: a targeted cell, unset and set; the coordinates stay. -/
theorem witness_sprite_hits : ({ State.reset with i := 0x50 } : State).SpriteHits 0 0 5 0 ∧
    State.reset.fb.cell 0 = false ∧ (State.reset.fb.flip 0).cell 0 = true ∧
    after (exec (.drw 0 0 5) { State.reset with i := 0x50 }) (fun t => t.reg 0 == State.reset.reg 0) = true :=
  ⟨⟨0, 0, by decide, by decide, by decide, by decide⟩, by decide, by decide, by decide⟩

/-- SecondDrawCollidesWheneverTheSpriteHasASetBit: all its hypotheses, on the state that refutes it. -/
theorem witness_second_draw : ∃ t u, exec (.drw 0 0 1)
      ({ State.reset with i := 0x300, fb := Framebuffer.clear.flip 0 }.writeByte 0x300 0x80) = .next t ∧
    exec (.drw 0 0 1) t = .next u ∧ t.reg 0 = 0 ∧ t.reg 15 = 1 ∧ u.reg 15 = 0 ∧
    ({ State.reset with i := 0x300, fb := Framebuffer.clear.flip 0 }.writeByte 0x300 0x80).SpriteHits 0 0 1 0 :=
  ⟨_, _, rfl, rfl, by decide, by decide, by decide, ⟨0, 0, by decide, by decide, by decide, by decide⟩⟩

/-- DrawsFollowTheSeed. -/
theorem witness_draws : 1 < [(0xA7 : Byte), 0x5C].length := by decide

/-- SkipsOnAKey: the last key number, and the first that is none. -/
theorem witness_keys : ((start .modern [(1, 15)]).reg 1).toNat = (15 : Key).val ∧ ((start .modern [(1, 16)]).reg 1).toNat > 15 := by
  decide

/-- WaitForKey: no key, and a key; two states with the same keys. -/
theorem witness_wait : (∀ k : Key, State.reset.keys[k] = false) ∧ (∃ k : Key, (State.reset.setKey 7 true).keys[k] = true) ∧
    (State.reset.setKey 7 true).advance.keys = (State.reset.setKey 7 true).keys := ⟨by decide, ⟨7, by decide⟩, rfl⟩

/-- FaultsArePrecise, FaultsAreExactlyThoseOfTheTable, PcChangesAsTabulated, EveryInstructionKeepsItsFrame: an
instruction that raises no fault, and one that does. -/
theorem witness_exec : State.reset.faultCause = .noFault ∧
    after (exec (.jp 0x234) State.reset) (fun t => t.faultCause == .noFault) = true ∧
    expectedFault .ret State.reset = some (.stackUnderflow, 0x200) := by decide

/-- FlagIsZeroOrOne. -/
theorem witness_flag : setsFlag (.addReg 1 2) = true ∧
    after (exec (.addReg 1 2) State.reset) (fun t => t.faultCause == .noFault) = true := by decide

/-- ModeGovernsOnlyFourInstructions, LatchesDoNotInfluenceExecution. -/
theorem witness_mode : dependsOnMode (.addReg 1 2) = false ∧ ∃ t, exec (.addReg 1 2) State.reset = .next t := ⟨by decide, _, rfl⟩

/-- LatchesAreSticky: each latch set before a step, and `TONE` raised by one. -/
theorem witness_latches : after (step { State.reset with redraw := true, tone := true, unk := true })
      (fun t => t.redraw && t.tone && t.unk) = true ∧
    State.reset.tone = false ∧ after (step { State.reset with st := 1 }) (fun t => t.tone) = true := by decide

/-- ConfigurationIsImmutable, EveryOperationSequenceKeepsTheInvariant. -/
theorem witness_operations : ∃ t, applyAll [.loadProgram [0x12, 0x00], .cycle, .setKey 3 true, .reset] State.reset = .next t :=
  ⟨_, rfl⟩

/-- EndedProgramStaysEnded: a jump to itself. -/
theorem witness_ended : (State.reset.withFetchWord 16 0x1200).Ended :=
  ⟨by unfold State.Safe; decide, by decide, 0x200, by decide, by decide⟩

/-- EqualBytesAreEqualMemories. -/
theorem witness_memories : Memory.wf defaultFont [(0x200, 0x12), (0xFFF, 0x34)] = true := by decide

/-- StepKeepsTheInvariant: a state that meets it, with a step. -/
theorem witness_invariant : State.reset.Inv ∧ ∃ t, step State.reset = .next t :=
  ⟨⟨by decide, rfl, .inr (by decide)⟩, _, rfl⟩

/-- LoadProgramCopiesTheImage: each clause at its boundary. -/
theorem witness_load : ([] : List Byte).length = 0 ∧ (List.replicate 3585 (0 : Byte)).length > 3584 ∧
    (List.replicate 3584 (0 : Byte)).length ≤ 3584 ∧ 0 < [(0x12 : Byte)].length := by
  simp only [List.length_replicate]; decide

/-- DriverWritesKeysAndClearsLatches: another key. -/
theorem witness_other_key : (3 : Key) ≠ 4 := by decide

end Sys2Proof.Tests
end

/-!
The invariant along the driver's operations (rules R10, R276, R316): what executing one instruction can do to the
fault record, memory and the unknown word, said once (`exec_cases`); from it a step, an operation and a sequence of
operations.
-/

namespace Sys2Proof.Machine

/-! ### The decoder answers well-formed instructions (rules R96, R97) -/

theorem wellFormed_decodeFamily8 (w : Word) (hf : (fieldFamily w).toNat = 8) :
    WellFormed (decodeFamily8 w) = true := by
  have := (fieldN w).isLt
  unfold decodeFamily8
  split
  case h_10 =>
    simp_all [WellFormed, noRow]
    omega
  all_goals rfl

theorem wellFormed_decodeFamilyE (w : Word) (hf : (fieldFamily w).toNat = 14) :
    WellFormed (decodeFamilyE w) = true := by
  unfold decodeFamilyE
  split
  case h_3 h₁ h₂ => simpa [WellFormed, noRow, hf] using ⟨h₁, h₂⟩
  all_goals rfl

theorem wellFormed_decodeFamilyF (w : Word) (hf : (fieldFamily w).toNat = 15) :
    WellFormed (decodeFamilyF w) = true := by
  unfold decodeFamilyF
  split
  case h_10 => simp_all [WellFormed, noRow]
  all_goals rfl

/-- SYS takes the words of family 0 that 00E0 and 00EE do not (rule R99). -/
theorem wellFormed_sys_fieldNNN (w : Word) (hf : (fieldFamily w).toNat = 0) (h₁ : w ≠ 0x00E0#16)
    (h₂ : w ≠ 0x00EE#16) : WellFormed (.sys (fieldNNN w)) = true := by
  have hw : wordNNN 0 (fieldNNN w) = w := by
    rw [← show fieldFamily w = 0 from BitVec.eq_of_toNat_eq hf, wordNNN_fields]
  simp only [WellFormed, Bool.and_eq_true, bne_iff_ne]
  exact ⟨fun e => h₁ (by rw [← hw, e]; rfl), fun e => h₂ (by rw [← hw, e]; rfl)⟩

theorem wellFormed_decodeWord (w : Word) : WellFormed (decodeWord w) = true := by
  have := (fieldFamily w).isLt
  unfold decodeWord
  split
  case h_1 hf =>
    split
    · rfl
    · split
      · rfl
      · next h₁ h₂ => exact wellFormed_sys_fieldNNN w hf h₁ h₂
  case h_6 hf =>
    split
    · rfl
    · simpa [WellFormed, noRow, hf]
  case h_9 hf => exact wellFormed_decodeFamily8 w hf
  case h_10 hf =>
    split
    · rfl
    · simpa [WellFormed, noRow, hf]
  case h_15 hf => exact wellFormed_decodeFamilyE w hf
  case h_16 => exact wellFormed_decodeFamilyF w (by simp_all; omega)
  all_goals rfl

/-! ### What executing one instruction can do -/

/-- What an instruction that raises no fault does to the fields the invariant reads: the fault record is untouched,
memory stays in its canonical form, and `UNK_WORD` stays a word with no handler. -/
structure Completes (i : Instr) (s t : State) : Prop where
  cause  : t.faultCause = s.faultCause
  info   : t.faultInfo = s.faultInfo
  memory : Memory.wf s.font s.mem = true → Memory.wf t.font t.mem = true
  word   : WellFormed i = true → s.UnknownWordOk → t.UnknownWordOk

/-- The two ways an instruction ends (rules R276, R277): it raises the fault the table gives it and does nothing else,
or the table gives it none and it completes. -/
inductive Executes (i : Instr) (s t : State) : Prop
  | faults (cause : FaultCause) (info : Word) (expected : expectedFault i s = some (cause, info))
      (raised : t = s.raiseFault cause info)
  | completes (expected : expectedFault i s = none) (completes : Completes i s t)

section
variable {i : Instr} {s t : State}

/-- An instruction that writes neither the fault record, nor memory, nor the unknown word completes. -/
theorem Completes.of_untouched (hc : t.faultCause = s.faultCause := by simp)
    (hi : t.faultInfo = s.faultInfo := by simp) (hf : t.font = s.font := by simp) (hm : t.mem = s.mem := by simp)
    (hw : t.unkWord = s.unkWord := by simp) : Completes i s t where
  cause := hc
  info := hi
  memory := by rw [hf, hm]; exact id
  word _ := by unfold State.UnknownWordOk; rw [hw]; exact id

theorem Completes.trans {u : State} (h : Completes i s t) (h' : Completes i t u) : Completes i s u where
  cause := h'.cause.trans h.cause
  info := h'.info.trans h.info
  memory hm := h'.memory (h.memory hm)
  word hi hw := h'.word hi (h.word hi hw)

/-- Bytes written inside the address space. -/
theorem Completes.writeBytes (a : Nat) (bytes : List Byte) (ha : a + bytes.length ≤ Config.memorySize) :
    Completes i s (s.writeBytes a bytes) where
  cause := by simp
  info := by simp
  memory hm := s.wf_writeBytes a bytes hm ha
  word _ := by simp [State.UnknownWordOk]

/-- A signalled word with no handler (rule R271). -/
theorem Completes.signalUnknown (w : Word)
    (hw : WellFormed i = true → (s.signalUnknown w).UnknownWordOk) : Completes i s (s.signalUnknown w) where
  cause := rfl
  info := rfl
  memory := id
  word hi _ := hw hi

/-- The word of a well-formed SYS has no handler (rules R97, R129). -/
theorem unknownWordOk_sys (nnn : BitVec 12) (h : WellFormed (.sys nnn) = true) :
    (s.signalUnknown (wordNNN 0 nnn)).UnknownWordOk := by
  simp only [WellFormed, Bool.and_eq_true, bne_iff_ne] at h
  refine .inr ⟨fieldFamily_wordNNN 0 nnn, fun e => h.1 ?_, fun e => h.2 ?_⟩ <;>
  · rw [← fieldNNN_wordNNN 0 nnn]
    exact congrArg fieldNNN e

/-- An access of `m` bytes at `I` behind the range check of rule R67. -/
theorem executes_withDataRange (m : Nat) (hexec : exec i s = s.withDataRange m t)
    (hexp : expectedFault i s = if 0 < m ∧ s.i.toNat + m - 1 > 0xFFF then some (.dataOutOfRange, s.i) else none)
    (hcompl : m = 0 ∨ s.i.toNat + m ≤ Config.memorySize → Completes i s t) :
    ∃ t, exec i s = .next t ∧ Executes i s t := by
  by_cases h : 0 < m ∧ s.i.toNat + m - 1 > 0xFFF
  · exact ⟨_, hexec.trans (s.withDataRange_fault t m h), .faults _ _ (hexp.trans (if_pos h)) rfl⟩
  · exact ⟨_, hexec.trans (s.withDataRange_ok t m (by omega)),
      .completes (hexp.trans (if_neg h)) (hcompl (by unfold Config.memorySize; omega))⟩

/-- A skip on a key, behind the check of the key number (rule R282). -/
theorem executes_skipOnKey (x : Reg) (whenDown : Bool) (hexec : exec i s = s.skipOnKey x whenDown)
    (hexp : expectedFault i s =
      if (s.reg x).toNat > 15 then some (.keyIndexOutOfRange, (s.reg x).setWidth 16) else none) :
    ∃ t, exec i s = .next t ∧ Executes i s t := by
  unfold State.skipOnKey at hexec
  by_cases h : (s.reg x).toNat > 15
  · rw [if_pos h] at hexec hexp
    exact ⟨_, hexec, .faults _ _ hexp rfl⟩
  · rw [if_neg h] at hexec hexp
    exact ⟨_, hexec, .completes hexp .of_untouched⟩

end

theorem executes_call (nnn : BitVec 12) (s : State) :
    ∃ t, exec (.call nnn) s = .next t ∧ Executes (.call nnn) s t := by
  cases h : s.push? s.pc with
  | none =>
    have hsp := (s.push?_eq_none s.pc).mp h
    exact ⟨_, by simp only [exec, execCall, h], .faults _ _ (if_pos hsp) rfl⟩
  | some t =>
    obtain ⟨hsp, -, -, ht⟩ := s.push?_eq_some t s.pc h
    exact ⟨t.setPc (addressOf nnn), by simp only [exec, execCall, h],
      .completes (if_neg (by omega)) (by rw [ht]; exact .of_untouched)⟩

theorem executes_ret (s : State) : ∃ t, exec .ret s = .next t ∧ Executes .ret s t := by
  cases h : s.pop? with
  | none =>
    have hsp := s.pop?_eq_none.mp h
    exact ⟨_, by simp only [exec, execRet, h], .faults _ _ (if_pos hsp) rfl⟩
  | some p =>
    obtain ⟨w, t⟩ := p
    obtain ⟨j, hsp, -, -, ht⟩ := s.pop?_eq_some t w h
    exact ⟨t.setPc (w + 2), by simp only [exec, execRet, h],
      .completes (if_neg (by omega)) (by rw [ht]; exact .of_untouched)⟩

theorem executes_ldVxK (x : Reg) (s : State) : ∃ t, exec (.ldVxK x) s = .next t ∧ Executes (.ldVxK x) s t := by
  cases h : selectKey s.pressedKeys with
  | none => exact ⟨s, by simp only [exec, execLdVxK, h], .completes rfl .of_untouched⟩
  | some k =>
    exact ⟨(s.setReg x (BitVec.ofNat 8 k.val)).advance, by simp only [exec, execLdVxK, h],
      .completes rfl .of_untouched⟩

theorem executes_drw (x y : Reg) (n : BitVec 4) (s : State) :
    ∃ t, exec (.drw x y n) s = .next t ∧ Executes (.drw x y n) s t :=
  executes_withDataRange n.toNat rfl rfl fun _ => .of_untouched

theorem executes_ldB (x : Reg) (s : State) : ∃ t, exec (.ldB x) s = .next t ∧ Executes (.ldB x) s t :=
  executes_withDataRange 3 rfl (by simp [expectedFault]) fun h =>
    (Completes.writeBytes s.i.toNat (bcdDigits (s.reg x)) (by simp [bcdDigits]; omega)).trans .of_untouched

theorem executes_storeRegs (x : Reg) (s : State) :
    ∃ t, exec (.storeRegs x) s = .next t ∧ Executes (.storeRegs x) s t :=
  executes_withDataRange (x.val + 1) rfl (by simp [expectedFault]) fun h =>
    (Completes.writeBytes s.i.toNat (s.regsUpTo x) (by simp; omega)).trans .of_untouched

theorem executes_loadRegs (x : Reg) (s : State) :
    ∃ t, exec (.loadRegs x) s = .next t ∧ Executes (.loadRegs x) s t :=
  executes_withDataRange (x.val + 1) rfl (by simp [expectedFault]) fun _ => .of_untouched

theorem executes_sys (nnn : BitVec 12) (s : State) : ∃ t, exec (.sys nnn) s = .next t ∧ Executes (.sys nnn) s t :=
  ⟨_, rfl, .completes rfl ((Completes.signalUnknown _ (unknownWordOk_sys nnn)).trans .of_untouched)⟩

theorem executes_unknown (w : Word) (s : State) : ∃ t, exec (.unknown w) s = .next t ∧ Executes (.unknown w) s t :=
  ⟨_, rfl, .completes rfl ((Completes.signalUnknown w Or.inl).trans .of_untouched)⟩

/-- Every instruction answers a next state, and ends in one of the two ways (rules R123, R277). -/
theorem exec_cases (i : Instr) (s : State) : ∃ t, exec i s = .next t ∧ Executes i s t :=
  match i with
  | .ret => executes_ret s
  | .call nnn => executes_call nnn s
  | .sys nnn => executes_sys nnn s
  | .unknown w => executes_unknown w s
  | .drw x y n => executes_drw x y n s
  | .ldB x => executes_ldB x s
  | .storeRegs x => executes_storeRegs x s
  | .loadRegs x => executes_loadRegs x s
  | .skp x => executes_skipOnKey x true rfl rfl
  | .sknp x => executes_skipOnKey x false rfl rfl
  | .ldVxK x => executes_ldVxK x s
  | .cls | .jp _ | .jpV0 _ | .seImm _ _ | .sneImm _ _ | .seReg _ _ | .sneReg _ _ | .ldImm _ _ | .addImm _ _
  | .ldReg _ _ | .orReg _ _ | .andReg _ _ | .xorReg _ _ | .addReg _ _ | .subReg _ _ | .subnReg _ _ | .shr _ _
  | .shl _ _ | .ldI _ | .rnd _ _ | .ldVxDt _ | .ldDtVx _ | .ldStVx _ | .addI _ | .ldF _ =>
    ⟨_, rfl, .completes rfl .of_untouched⟩

/-! ### The invariant through a step -/

theorem faultRecordOk_dataOutOfRange (s : State) (h : s.i.toNat + 15 > 0xFFF) :
    (s.raiseFault .dataOutOfRange s.i).FaultRecordOk := ⟨rfl, h⟩

/-- A row of the fault table: one fault, raised under one condition. -/
theorem faultRecordOk_of_row {s : State} {c : Prop} [Decidable c] {cause cause' : FaultCause} {info info' : Word}
    (h : (if c then some (cause, info) else none) = some (cause', info'))
    (hrow : c → (s.raiseFault cause info).FaultRecordOk) : (s.raiseFault cause' info').FaultRecordOk := by
  obtain ⟨hc, h⟩ := Option.ite_none_right_eq_some.mp h
  cases h
  exact hrow hc

/-- A fault the table gives an instruction is recorded truly (rules R39, R277). -/
theorem faultRecordOk_of_expectedFault (i : Instr) (s : State) (cause : FaultCause) (info : Word)
    (h : expectedFault i s = some (cause, info)) : (s.raiseFault cause info).FaultRecordOk := by
  cases i
  case call => exact faultRecordOk_of_row h fun hsp => ⟨rfl, Fin.ext hsp⟩
  case ret => exact faultRecordOk_of_row h fun hsp => ⟨rfl, Fin.ext hsp⟩
  case drw n =>
    have := n.isLt
    exact faultRecordOk_of_row h fun _ => faultRecordOk_dataOutOfRange s (by omega)
  case ldB => exact faultRecordOk_of_row h fun _ => faultRecordOk_dataOutOfRange s (by omega)
  case storeRegs x => exact faultRecordOk_of_row h fun _ => faultRecordOk_dataOutOfRange s (by omega)
  case loadRegs x => exact faultRecordOk_of_row h fun _ => faultRecordOk_dataOutOfRange s (by omega)
  case skp x => exact faultRecordOk_of_row h fun hx => ⟨x, rfl, hx⟩
  case sknp x => exact faultRecordOk_of_row h fun hx => ⟨x, rfl, hx⟩
  all_goals cases h

theorem State.FaultRecordOk.info_eq_zero {s : State} (h : s.FaultRecordOk) (hf : s.faultCause = .noFault) :
    s.faultInfo = 0 := by
  simpa [State.FaultRecordOk, hf] using h

theorem State.FaultRecordOk.of_noFault {s : State} (hf : s.faultCause = .noFault) (hi : s.faultInfo = 0) :
    s.FaultRecordOk := by
  simpa [State.FaultRecordOk, hf] using hi

theorem State.Inv.raiseFault {s : State} {cause : FaultCause} {info : Word} (h : s.Inv)
    (hr : (s.raiseFault cause info).FaultRecordOk) : (s.raiseFault cause info).Inv :=
  ⟨h.memory, hr, h.word⟩

theorem State.Inv.executes {i : Instr} {s t : State} (h : s.Inv) (hf : s.faultCause = .noFault)
    (hi : WellFormed i = true) (he : Executes i s t) : t.Inv := by
  cases he with
  | faults cause info expected raised =>
    exact raised ▸ h.raiseFault (faultRecordOk_of_expectedFault i s cause info expected)
  | completes _ hc =>
    exact ⟨hc.memory h.memory, .of_noFault (hc.cause.trans hf) (hc.info.trans (h.record.info_eq_zero hf)),
      hc.word hi h.word⟩

/-- The timer steps touch nothing the invariant reads (rule R120). -/
theorem State.Inv.endCycle {s : State} (h : s.Inv) : s.endCycle.Inv := by
  by_cases hf : s.faultCause = .noFault
  · rw [s.endCycle_of_noFault hf]
    exact ⟨by simpa using h.memory, .of_noFault (by simpa using hf) (by simpa using h.record.info_eq_zero hf),
      by simpa [State.UnknownWordOk] using h.word⟩
  · rwa [s.endCycle_of_fault hf]

/-- A cycle is total (rule R127). -/
theorem exists_step_eq_next (s : State) : ∃ t, step s = .next t := by
  by_cases hf : s.faultCause = .noFault
  · by_cases hp : s.pc.toNat ≤ 0xFFE
    · obtain ⟨t, ht, -⟩ := exec_cases (decodeWord s.fetchWord) s
      exact ⟨_, step_of_exec s t hf hp ht⟩
    · have hp' : s.fetchOutOfRange = true := s.fetchOutOfRange_iff.mpr (by omega)
      exact ⟨s.raiseFetchFault, by simp [step, s.faulted_eq_false.mpr hf, hp']⟩
  · exact ⟨s, by simp [step, s.faulted_eq_true.mpr hf]⟩

theorem State.Inv.step {s u : State} (h : s.Inv) (hs : step s = .next u) : u.Inv := by
  rcases step_cases s u hs with ⟨-, rfl⟩ | ⟨-, hp, rfl⟩ | ⟨hf, -, t, ht, rfl⟩
  · exact h
  · exact h.raiseFault ⟨rfl, hp⟩
  · obtain ⟨t', ht', he⟩ := exec_cases (decodeWord s.fetchWord) s
    obtain rfl : t' = t := by simpa [ht'] using ht
    exact (h.executes hf (wellFormed_decodeWord _) he).endCycle

/-! ### The invariant through the driver's operations -/

@[simp] theorem State.resetCore_unkWord (s : State) : s.resetCore.unkWord = 0 := rfl

/-- Reset ends any fault and empties memory's list (rules R311, R312). -/
theorem State.resetCore_inv (s : State) : s.resetCore.Inv :=
  ⟨Memory.wf_nil s.font, rfl, .inr (by rw [s.resetCore_unkWord]; decide)⟩

theorem State.Inv.writeBytes {s : State} (h : s.Inv) (a : Nat) (bytes : List Byte)
    (ha : a + bytes.length ≤ Config.memorySize) : (s.writeBytes a bytes).Inv :=
  ⟨s.wf_writeBytes a bytes h.memory ha, by simpa [State.FaultRecordOk] using h.record,
    by simpa [State.UnknownWordOk] using h.word⟩

/-- A load that is not refused fits below 0x1000 (rule R316). -/
theorem State.Inv.loadProgram {s t : State} (h : s.Inv) (bytes : List Byte) (ht : s.loadProgram bytes = .ok t) :
    t.Inv := by
  unfold State.loadProgram at ht
  split at ht
  · cases ht
  · split at ht
    · cases ht
    · next hlen =>
      cases ht
      simp only [Config.maxProgramSize, Config.memorySize, Config.programBase] at hlen
      exact h.writeBytes _ _ (by simp only [Config.memorySize, Config.programBase]; omega)

/-- Every operation of rule R10 answers a next state and keeps the invariant. -/
theorem DriverOp.apply_inv (op : DriverOp) (s : State) (h : s.Inv) : ∃ t, op.apply s = .next t ∧ t.Inv := by
  cases op with
  | reset => exact ⟨_, rfl, s.resetCore_inv⟩
  | loadProgram bytes =>
    refine ⟨_, rfl, ?_⟩
    split
    · next ht => exact h.loadProgram bytes ht
    · exact h
  | cycle =>
    obtain ⟨t, ht⟩ := exists_step_eq_next s
    exact ⟨t, ht, h.step ht⟩
  | setKey k pressed => exact ⟨_, rfl, h.memory, h.record, h.word⟩
  | clearRedraw => exact ⟨_, rfl, h.memory, h.record, h.word⟩
  | clearTone => exact ⟨_, rfl, h.memory, h.record, h.word⟩
  | clearUnknown => exact ⟨_, rfl, h.memory, h.record, h.word⟩

/-- Settles O58, by induction on the list of operations, each of which keeps the invariant. -/
theorem everyOperationSequenceKeepsTheInvariant : Obligations.EveryOperationSequenceKeepsTheInvariant := by
  intro ops
  induction ops with
  | nil => exact fun s h => ⟨s, rfl, h⟩
  | cons op rest ih =>
    intro s h
    obtain ⟨t, ht, hinv⟩ := op.apply_inv s h
    simpa [applyAll, ht] using ih t hinv

end Sys2Proof.Machine

/-!
The state's own statements (rules R20 to R44): the invariant through a step and at reset, the values reset leaves, and
memory's canonical form.
-/

namespace Sys2Proof.Machine

/-- Settles O57: each of the three ways a step ends keeps the invariant (`State.Inv.step`). -/
theorem stepKeepsTheInvariant : Obligations.StepKeepsTheInvariant := fun _ _ h hs => h.step hs

/-- Settles O56: `State.reset` and every constructed core are what `reset()` leaves of some state. -/
theorem resetMeetsTheInvariant : Obligations.ResetMeetsTheInvariant :=
  ⟨State.reset.resetCore_inv, fun m font seed => (State.afterReset m font (RngState.ofSeed seed)).resetCore_inv⟩

/-! ### What `reset()` leaves (rules R42, R311) -/

theorem Memory.unlisted_fontBase_add (font : Vector Byte 80) (j : Fin 80) :
    Memory.unlisted font (0x050 + j.val) = font[j] := by
  simp [Memory.unlisted, Config.fontBase]

theorem Memory.unlisted_outside_font (font : Vector Byte 80) (a : Nat) (h : a < 0x050 ∨ 0x09F < a) :
    Memory.unlisted font a = 0 := by
  unfold Memory.unlisted Config.fontBase
  split
  · have h80 : 80 ≤ a - 0x050 := by omega
    simp [h80]
  · rfl

@[simp] theorem State.reg_resetCore (s : State) (r : Reg) : s.resetCore.reg r = 0 := by
  simp [State.reg, State.resetCore, State.afterReset]

@[simp] theorem State.stack_resetCore (s : State) (j : Fin 16) : s.resetCore.stack[j] = 0 := by
  simp [State.resetCore, State.afterReset]

@[simp] theorem State.keys_resetCore (s : State) (k : Key) : s.resetCore.keys[k] = false := by
  simp [State.resetCore, State.afterReset]

@[simp] theorem State.fb_resetCore (s : State) : s.resetCore.fb = Framebuffer.clear := rfl

/-- Reset empties memory's list, so every address reads as an unlisted one (rules R42, R61). -/
@[simp] theorem State.readByte_resetCore (s : State) (a : Nat) :
    s.resetCore.readByte a = Memory.unlisted s.font a := rfl

/-- Settles O1: the register file, the stack, memory, the framebuffer and the keys by their lemmas, the rest by the
definition of `State.afterReset`. -/
theorem resetLeavesTheStatedValues : Obligations.ResetLeavesTheStatedValues := by
  refine ⟨fun s => ⟨s.reg_resetCore, rfl, rfl, rfl, s.stack_resetCore, ?_, ?_, ?_, s.keys_resetCore, rfl, rfl, rfl, rfl,
    rfl, rfl, rfl, rfl, rfl, rfl, rfl⟩, rfl⟩
  · exact Memory.unlisted_fontBase_add s.font
  · exact Memory.unlisted_outside_font s.font
  · exact fun k _ => Framebuffer.cell_clear k

/-! ### The canonical form of memory (log entry 16) -/

/-- With rising addresses an address is listed once, so looking it up finds its entry. -/
theorem Memory.lookup_eq_some_iff (m : Memory) (hm : m.Pairwise fun c d => c.1 < d.1) (a : Nat) (b : Byte) :
    m.lookup a = some b ↔ (a, b) ∈ m := by
  induction m with
  | nil => simp [Memory.lookup]
  | cons c rest ih =>
    obtain ⟨hc, hrest⟩ := List.pairwise_cons.mp hm
    by_cases h : c.1 = a
    · have hnot : (a, b) ∉ rest := fun hb => absurd (hc _ hb) (by simp [h])
      simp [Memory.lookup, h, hnot, Prod.ext_iff, eq_comm]
    · have hne : (a, b) ≠ c := fun e => h (e ▸ rfl)
      simp [Memory.lookup, h, hne, ih hrest]

/-- In canonical form the entries are exactly the bytes that differ from the reset contents. -/
theorem Memory.mem_iff_read (font : Vector Byte 80) (m : Memory) (hm : Memory.wf font m = true) (c : Host.Cell) :
    c ∈ m ↔ c.1 < 4096 ∧ c.2 ≠ Memory.unlisted font c.1 ∧ Memory.read font m c.1 = c.2 := by
  obtain ⟨hsorted, hcells⟩ := (Memory.wf_iff font m).mp hm
  rw [← Memory.lookup_eq_some_iff m hsorted c.1 c.2]
  constructor
  · intro h
    obtain ⟨hlt, hne⟩ := hcells c ((Memory.lookup_eq_some_iff m hsorted c.1 c.2).mp h)
    exact ⟨hlt, hne, by simp [Memory.read, h]⟩
  · rintro ⟨-, hne, hread⟩
    cases h : m.lookup c.1 with
    | none => exact absurd (by simpa [Memory.read, h] using hread.symm) hne
    | some b => simpa [Memory.read, h] using hread

/-- Settles O55: canonical memories with the same bytes list the same entries, and a strictly rising list is given by
its members. -/
theorem equalBytesAreEqualMemories : Obligations.EqualBytesAreEqualMemories := by
  intro font m m' hm hm' h
  have : Std.Irrefl fun c d : Host.Cell => c.1 < d.1 := ⟨fun c => Nat.lt_irrefl c.1⟩
  have : Std.Antisymm fun c d : Host.Cell => c.1 < d.1 := ⟨fun c d h₁ h₂ => absurd h₁ (Nat.lt_asymm h₂)⟩
  refine ((Memory.wf_iff font m).mp hm).1.eq_of_mem_iff ((Memory.wf_iff font m').mp hm').1 fun c => ?_
  rw [Memory.mem_iff_read font m hm, Memory.mem_iff_read font m' hm']
  exact and_congr_right fun hlt => by rw [h c.1 hlt]

end Sys2Proof.Machine

/-!
What an instruction leaves unchanged (rules R20, R22): one frame rule per operation of the state, and from them the
frame of every instruction (`exec_frame`).
-/

namespace Sys2Proof.Machine

section
variable {w : Touches} {s t : State}

/-! ### The two ways of each instruction that branches -/

theorem exec_call_of_lt {nnn : BitVec 12} (h : s.sp.val < 16) :
    exec (.call nnn) s = .next (State.setPc
      { s with stack := s.stack.set s.sp.val s.pc h, sp := ⟨s.sp.val + 1, by omega⟩ } (addressOf nnn)) := by
  simp only [exec, execCall, State.push?, dif_pos h]

theorem exec_call_of_full {nnn : BitVec 12} (h : ¬ s.sp.val < 16) :
    exec (.call nnn) s = .next (s.raiseFault .stackOverflow s.pc) := by
  simp only [exec, execCall, State.push?, dif_neg h]

theorem exec_ret_of_pos (h : 0 < s.sp.val) :
    exec .ret s =
      .next (State.setPc { s with sp := ⟨s.sp.val - 1, by omega⟩ } (s.stack[s.sp.val - 1] + 2)) := by
  simp only [exec, execRet, State.pop?, dif_pos h]

theorem exec_ret_of_empty (h : ¬ 0 < s.sp.val) : exec .ret s = .next (s.raiseFault .stackUnderflow s.pc) := by
  simp only [exec, execRet, State.pop?, dif_neg h]

theorem State.skipOnKey_of_gt {x : Reg} {d : Bool} (h : (s.reg x).toNat > 15) :
    s.skipOnKey x d = .next (s.raiseFault .keyIndexOutOfRange ((s.reg x).setWidth 16)) := if_pos h

theorem State.skipOnKey_of_le {x : Reg} {d : Bool} (h : ¬ (s.reg x).toNat > 15) :
    s.skipOnKey x d = .next (s.skipIf (s.keyDown (s.reg x).toNat == d)) := if_neg h

theorem exec_ldVxK_of_none {x : Reg} (h : selectKey s.pressedKeys = none) : exec (.ldVxK x) s = .next s := by
  simp only [exec, execLdVxK, h]

theorem exec_ldVxK_of_some {x : Reg} {k : Key} (h : selectKey s.pressedKeys = some k) :
    exec (.ldVxK x) s = .next (s.setReg x (BitVec.ofNat 8 k.val)).advance := by
  simp only [exec, execLdVxK, h]

/-- A data access that records no fault was made (rule R67). -/
theorem eq_of_withDataRange {u : State} {m : Nat} (h : s.withDataRange m u = .next t) (ht : t.faultCause = .noFault) :
    t = u := by
  unfold State.withDataRange at h
  split at h
  · cases h; cases ht
  · cases h; rfl

/-! ### One frame rule per operation of the state -/

theorem Frame.refl (w : Touches) (s : State) : Frame w s s := by
  constructor <;> simp

theorem Frame.setReg {r : Reg} {b : Byte} (h : Frame w s t) (hr : r ∈ w.regs := by simp [touchesOf]) :
    Frame w s (t.setReg r b) :=
  { h with regs := fun q hq => (t.reg_setReg_other r q b fun e => hq (e ▸ hr)).trans (h.regs q hq) }

theorem Frame.setFlag {f : Bool} (h : Frame w s t) (hvf : vf ∈ w.regs := by simp [touchesOf]) :
    Frame w s (t.setFlag f) :=
  h.setReg hvf

theorem Frame.setRegsFrom {bytes : List Byte} (h : Frame w s t)
    (hr : ∀ r : Reg, r.val < bytes.length → r ∈ w.regs) : Frame w s (t.setRegsFrom bytes) :=
  { h with regs := fun r hnot => by rw [State.reg_setRegsFrom, if_neg fun hlt => hnot (hr r hlt), h.regs r hnot] }

theorem Frame.writeBytes {a : Nat} {bytes : List Byte} (h : Frame w s t)
    (ha : ∀ k, k < bytes.length → a + k ∈ w.bytes) : Frame w s (t.writeBytes a bytes) where
  regs := by simpa using h.regs
  bytes q hq := by
    rw [State.readByte_writeBytes, if_neg, h.bytes q hq]
    rintro ⟨hle, hlt⟩
    have hmem := ha (q - a) (by omega)
    rw [Nat.add_sub_cancel' hle] at hmem
    exact hq hmem
  index := by simpa using h.index
  pc := by simpa using h.pc
  stack := by simpa using h.stack
  display := by simpa using h.display
  delay := by simpa using h.delay
  sound := by simpa using h.sound
  signal := by simpa using h.signal
  random := by simpa using h.random
  tone := by simpa using h.tone
  keys := by simpa using h.keys
  fault := by simpa using h.fault
  config := by simpa using h.config

theorem Frame.setIndex {i : Word} (h : Frame w s t) (hi : w.index = true := by rfl) : Frame w s (t.setIndex i) :=
  { h with index := by simp [hi] }

/-- The index moves in every mode but Modern (rules R194, R195). -/
theorem Frame.blockIndex {n : Nat} (h : Frame w s t) (hi : w.index = (t.mode != .modern)) :
    Frame w s (t.blockIndex n) := by
  unfold State.blockIndex
  split
  · next hm => exact h.setIndex (by rw [hi, hm]; rfl)
  · next hm => exact h.setIndex (by rw [hi, hm]; rfl)
  · exact h

theorem Frame.setPc {p : Word} (h : Frame w s t) (hp : w.pc = true := by rfl) : Frame w s (t.setPc p) :=
  { h with pc := by simp [hp] }

theorem Frame.advance (h : Frame w s t) (hp : w.pc = true := by rfl) : Frame w s t.advance := h.setPc hp

theorem Frame.skipIf {c : Bool} (h : Frame w s t) (hp : w.pc = true := by rfl) : Frame w s (t.skipIf c) := h.setPc hp

theorem Frame.setStack {stack : Vector Word 16} {sp : Fin 17} (h : Frame w s t) (hs : w.stack = true := by rfl) :
    Frame w s { t with stack := stack, sp := sp } :=
  { h with stack := by simp [hs] }

theorem Frame.setDisplay {fb : Framebuffer} (h : Frame w s t) (hd : w.display = true := by rfl) :
    Frame w s (t.setDisplay fb) :=
  { h with display := by simp [hd] }

theorem Frame.setDelay {b : Byte} (h : Frame w s t) (hd : w.delay = true := by rfl) : Frame w s (t.setDelay b) :=
  { h with delay := by simp [hd] }

theorem Frame.setSound {b : Byte} (h : Frame w s t) (hd : w.sound = true := by rfl) : Frame w s (t.setSound b) :=
  { h with sound := by simp [hd] }

theorem Frame.setRng {r : RngState} (h : Frame w s t) (hr : w.random = true := by rfl) : Frame w s (t.setRng r) :=
  { h with random := by simp [hr] }

theorem Frame.signalUnknown {op : Word} (h : Frame w s t) (hs : w.signal = true := by rfl) :
    Frame w s (t.signalUnknown op) :=
  { h with signal := by simp [hs] }

/-! ### The frame of every instruction -/

theorem Frame.execStoreRegs (x : Reg) (s : State) :
    Frame (touchesOf (.storeRegs x) s) s
      ((s.writeBytes s.i.toNat (s.regsUpTo x)).blockIndex (x.val + 1)).advance :=
  (((Frame.refl _ s).writeBytes fun k hk => by simpa [touchesOf] using hk).blockIndex (by simp [touchesOf])).advance

theorem Frame.execLoadRegs (x : Reg) (s : State) :
    Frame (touchesOf (.loadRegs x) s) s
      ((s.setRegsFrom (s.readBytes s.i.toNat (x.val + 1))).blockIndex (x.val + 1)).advance :=
  (((Frame.refl _ s).setRegsFrom fun r hr => by
    have hle : r ≤ x := by simpa using hr
    simp [touchesOf, hle]).blockIndex (by simp [touchesOf])).advance

theorem Frame.execLdB (x : Reg) (s : State) :
    Frame (touchesOf (.ldB x) s) s (s.writeBytes s.i.toNat (bcdDigits (s.reg x))).advance :=
  ((Frame.refl _ s).writeBytes fun k hk => by
    obtain rfl | rfl | rfl : k = 0 ∨ k = 1 ∨ k = 2 := by simp [bcdDigits] at hk; omega
    all_goals simp [touchesOf]).advance

/-- An instruction that records no fault keeps its frame, from every state. -/
theorem exec_frame (i : Instr) (h : exec i s = .next t) (ht : t.faultCause = .noFault) :
    Frame (touchesOf i s) s t := by
  have hrefl := Frame.refl (touchesOf i s) s
  cases i
  case cls => cases h; exact hrefl.setDisplay.advance
  case sys | unknown => cases h; exact hrefl.signalUnknown.advance
  case jp | jpV0 => cases h; exact hrefl.setPc
  case seImm | sneImm | seReg | sneReg => cases h; exact hrefl.skipIf
  case ldImm | addImm | ldReg | orReg | andReg | xorReg | ldVxDt => cases h; exact hrefl.setReg.advance
  case addReg | subReg | subnReg | shr | shl => cases h; exact hrefl.setReg.setFlag.advance
  case ldI | ldF => cases h; exact hrefl.setIndex.advance
  case addI => cases h; exact hrefl.setIndex.setFlag.advance
  case rnd => cases h; exact hrefl.setRng.setReg.advance
  case ldDtVx => cases h; exact hrefl.setDelay.advance
  case ldStVx => cases h; exact hrefl.setSound.advance
  case call =>
    by_cases hsp : s.sp.val < 16
    · cases (exec_call_of_lt hsp).symm.trans h
      exact hrefl.setStack.setPc
    · cases (exec_call_of_full hsp).symm.trans h
      cases ht
  case ret =>
    by_cases hsp : 0 < s.sp.val
    · cases (exec_ret_of_pos hsp).symm.trans h
      exact hrefl.setStack.setPc
    · cases (exec_ret_of_empty hsp).symm.trans h
      cases ht
  case skp x | sknp x =>
    by_cases hx : (s.reg x).toNat > 15
    · cases (State.skipOnKey_of_gt hx).symm.trans h
      cases ht
    · cases (State.skipOnKey_of_le hx).symm.trans h
      exact hrefl.skipIf
  case ldVxK =>
    cases hk : selectKey s.pressedKeys with
    | none =>
      cases (exec_ldVxK_of_none hk).symm.trans h
      exact hrefl
    | some k =>
      cases (exec_ldVxK_of_some hk).symm.trans h
      exact hrefl.setReg.advance
  case drw => exact eq_of_withDataRange h ht ▸ hrefl.setDisplay.setFlag.advance
  case ldB x => exact eq_of_withDataRange h ht ▸ .execLdB x s
  case storeRegs x => exact eq_of_withDataRange h ht ▸ .execStoreRegs x s
  case loadRegs x => exact eq_of_withDataRange h ht ▸ .execLoadRegs x s

end

/-- Settles O48: the frame rules, instruction by instruction (`exec_frame`). -/
theorem everyInstructionKeepsItsFrame : Obligations.EveryInstructionKeepsItsFrame :=
  fun i _ _ _ h ht => exec_frame i h ht

end Sys2Proof.Machine

/-!
What follows from the frames and from the equations of the branching instructions: a call and its return (rule R28),
the flag (rule R23), the latches and the keys over a cycle (rules R32, R36 to R38), the configuration over any
operations (rule R40).
-/

namespace Sys2Proof.Machine

/-- Settles O19: the call pushes `PC`, and the return pops that very entry (rules R141, R142). -/
theorem callThenReturnResumesAfterTheCall : Obligations.CallThenReturnResumesAfterTheCall := by
  intro nnn s hsp
  refine ⟨_, _, exec_call_of_lt hsp, exec_ret_of_pos (Nat.succ_pos _), ?_, rfl⟩
  simp

/-! ### The flag (rules R23, R24) -/

theorem flagByte_eq_zero_or_one (f : Bool) : flagByte f = 0 ∨ flagByte f = 1 := by
  cases f
  · exact .inl rfl
  · exact .inr rfl

/-- The flag is written last, so it is what VF holds (rule R24). -/
theorem State.vf_setFlag_advance (s : State) (f : Bool) :
    (s.setFlag f).advance.reg vf = 0 ∨ (s.setFlag f).advance.reg vf = 1 := by
  rw [State.reg_advance, State.reg_setFlag, if_pos rfl]
  exact flagByte_eq_zero_or_one f

/-- Settles O49: each of the seven ends in a flag write and the advance. -/
theorem flagIsZeroOrOne : Obligations.FlagIsZeroOrOne := by
  intro i s t hi h ht
  cases i
  case addReg | subReg | subnReg | shr | shl | addI => cases h; exact State.vf_setFlag_advance _ _
  case drw => exact eq_of_withDataRange h ht ▸ State.vf_setFlag_advance _ _
  all_goals cases hi

/-! ### A cycle's effect on the configuration, the keys and the latches (rules R32, R36 to R38, R40) -/

section
variable {s t : State}

/-- From a state with no fault recorded an instruction records one and does nothing else, or keeps its frame. -/
theorem exec_raises_or_frame (i : Instr) (hs : s.faultCause = .noFault) (h : exec i s = .next t) :
    (∃ cause info, t = s.raiseFault cause info) ∨ (t.faultCause = .noFault ∧ Frame (touchesOf i s) s t) := by
  obtain ⟨t', ht', he⟩ := exec_cases i s
  obtain rfl : t' = t := by simpa [ht'] using h
  cases he with
  | faults cause info _ raised => exact .inl ⟨cause, info, raised⟩
  | completes _ hc =>
    have ht := hc.cause.trans hs
    exact .inr ⟨ht, exec_frame i h ht⟩

/-- An instruction that may write the framebuffer leaves `REDRAW` set (rule R36). -/
theorem redraw_of_touches_display (i : Instr) (h : exec i s = .next t) (ht : t.faultCause = .noFault)
    (hi : (touchesOf i s).display = true) : t.redraw = true := by
  cases i
  case cls => cases h; rfl
  case drw => exact eq_of_withDataRange h ht ▸ rfl
  all_goals cases hi

/-- An instruction that may write the unknown word leaves `UNK` set (rule R38). -/
theorem unk_of_touches_signal (i : Instr) (h : exec i s = .next t) (hi : (touchesOf i s).signal = true) :
    t.unk = true := by
  cases i
  case sys | unknown => cases h; rfl
  all_goals cases hi

/-- What every instruction keeps, whether it faults or not: the keys, `TONE`, the configuration, and any latch that is
set. -/
structure ExecKeeps (s t : State) : Prop where
  redraw : s.redraw = true → t.redraw = true
  unk    : s.unk = true → t.unk = true
  tone   : t.tone = s.tone
  keys   : t.keys = s.keys
  mode   : t.mode = s.mode
  font   : t.font = s.font

theorem exec_keeps (i : Instr) (hs : s.faultCause = .noFault) (h : exec i s = .next t) : ExecKeeps s t := by
  rcases exec_raises_or_frame i hs h with ⟨cause, info, rfl⟩ | ⟨ht, hf⟩
  · exact ⟨id, id, rfl, rfl, rfl, rfl⟩
  · refine ⟨fun hr => ?_, fun hu => ?_, hf.tone, hf.keys, hf.config.1, hf.config.2⟩
    · cases hd : (touchesOf i s).display with
      | false => exact (hf.display hd).2.trans hr
      | true => exact redraw_of_touches_display i h ht hd
    · cases hd : (touchesOf i s).signal with
      | false => exact (hf.signal hd).1.trans hu
      | true => exact unk_of_touches_signal i h hd

@[simp] theorem State.endCycle_redraw (s : State) : s.endCycle.redraw = s.redraw := by
  unfold State.endCycle; split <;> simp
@[simp] theorem State.endCycle_unk (s : State) : s.endCycle.unk = s.unk := by
  unfold State.endCycle; split <;> simp
@[simp] theorem State.endCycle_keys (s : State) : s.endCycle.keys = s.keys := by
  unfold State.endCycle; split <;> simp
@[simp] theorem State.endCycle_mode (s : State) : s.endCycle.mode = s.mode := by
  unfold State.endCycle; split <;> simp
@[simp] theorem State.endCycle_font (s : State) : s.endCycle.font = s.font := by
  unfold State.endCycle; split <;> simp

theorem State.tone_endCycle_of_tone (h : s.tone = true) : s.endCycle.tone = true := by
  unfold State.endCycle
  split
  · exact h
  · simp [State.tickSound_tone, h]

/-- The end of a cycle raises `TONE` only as `ST` reaches 0, and not after a fault (rules R37, R125). -/
theorem State.endCycle_of_tone_raised (h : s.tone = false) (ht : s.endCycle.tone = true) :
    s.endCycle.st = 0 ∧ s.endCycle.faultCause = .noFault := by
  by_cases hf : s.faultCause = .noFault
  · rw [s.endCycle_of_noFault hf] at ht ⊢
    have hst : s.st = 1 := by simpa [State.tickSound_tone, h] using ht
    exact ⟨by simp [State.tickSound_st, hst], by simpa using hf⟩
  · rw [s.endCycle_of_fault hf, h] at ht
    cases ht

/-- Settles O52: a frozen core and a fetch fault write no latch; an executed instruction and the timer steps by their
lemmas. -/
theorem latchesAreSticky : Obligations.LatchesAreSticky := by
  intro s u h
  rcases step_cases s u h with ⟨-, rfl⟩ | ⟨-, -, rfl⟩ | ⟨hs, -, t, ht, rfl⟩
  · exact ⟨id, id, id, rfl, fun h₀ h₁ => absurd (h₀.symm.trans h₁) Bool.false_ne_true⟩
  · exact ⟨id, id, id, rfl, fun h₀ h₁ => absurd (h₀.symm.trans h₁) Bool.false_ne_true⟩
  · have hk := exec_keeps _ hs ht
    exact ⟨fun hr => t.endCycle_redraw.trans (hk.redraw hr),
      fun htone => State.tone_endCycle_of_tone (hk.tone.trans htone),
      fun hu => t.endCycle_unk.trans (hk.unk hu), t.endCycle_keys.trans hk.keys,
      fun h₀ h₁ => State.endCycle_of_tone_raised (hk.tone.trans h₀) h₁⟩

theorem step_keeps_config (h : step s = .next t) : t.mode = s.mode ∧ t.font = s.font := by
  rcases step_cases s t h with ⟨-, rfl⟩ | ⟨-, -, rfl⟩ | ⟨hs, -, u, hu, rfl⟩
  · exact ⟨rfl, rfl⟩
  · exact ⟨rfl, rfl⟩
  · have hk := exec_keeps _ hs hu
    exact ⟨u.endCycle_mode.trans hk.mode, u.endCycle_font.trans hk.font⟩

theorem State.loadProgram_keeps_config {bytes : List Byte} (h : s.loadProgram bytes = .ok t) :
    t.mode = s.mode ∧ t.font = s.font := by
  unfold State.loadProgram at h
  split at h
  · cases h
  · split at h
    · cases h
    · cases h; exact ⟨s.writeBytes_mode _ _, s.writeBytes_font _ _⟩

theorem DriverOp.apply_keeps_config (op : DriverOp) (h : op.apply s = .next t) :
    t.mode = s.mode ∧ t.font = s.font := by
  cases op with
  | cycle => exact step_keeps_config h
  | loadProgram bytes =>
    cases h
    split
    · next hload => exact State.loadProgram_keeps_config hload
    · exact ⟨rfl, rfl⟩
  | reset | setKey | clearRedraw | clearTone | clearUnknown => cases h; exact ⟨rfl, rfl⟩

end

/-- Settles O53, by induction on the list of operations. -/
theorem configurationIsImmutable : Obligations.ConfigurationIsImmutable := by
  intro ops
  induction ops with
  | nil => intro s t h; cases h; exact ⟨rfl, rfl⟩
  | cons op rest ih =>
    intro s t h
    unfold applyAll at h
    split at h
    · next u hu =>
      obtain ⟨hm, hf⟩ := op.apply_keeps_config hu
      obtain ⟨hm', hf'⟩ := ih u t h
      exact ⟨hm'.trans hm, hf'.trans hf⟩
    · cases h
    · cases h

end Sys2Proof.Machine

/-!
What no instruction reads: the latches (rule R44), and, but for four instructions, the mode (rule R40). Replacing them
before an instruction commutes with it (`exec_mapUnread`).
-/

namespace Sys2Proof.Machine

section
variable {s t : State}

/-- The parts of the state that most instructions never read: the mode, and the latches with the unknown word. -/
structure Unread where
  mode    : Mode
  redraw  : Bool
  tone    : Bool
  unk     : Bool
  unkWord : Word

def Unread.withMode (m : Mode) (p : Unread) : Unread := { p with mode := m }

def Unread.withLatches (redraw tone unk : Bool) (word : Word) (p : Unread) : Unread :=
  { mode := p.mode, redraw := redraw, tone := tone, unk := unk, unkWord := word }

/-- The state with its unread parts replaced by a function of them. -/
def State.mapUnread (s : State) (g : Unread → Unread) : State :=
  let p := g ⟨s.mode, s.redraw, s.tone, s.unk, s.unkWord⟩
  { s with mode := p.mode, redraw := p.redraw, tone := p.tone, unk := p.unk, unkWord := p.unkWord }

variable (g : Unread → Unread)

theorem State.writeBytes_mapUnread (s : State) (a : Nat) (bytes : List Byte) :
    (s.mapUnread g).writeBytes a bytes = (s.writeBytes a bytes).mapUnread g := by
  induction bytes generalizing s a with
  | nil => rfl
  | cons b rest ih => exact ih (s.writeByte a b) (a + 1)

/-- The range check of rule R67 reads `I` alone. -/
theorem State.withDataRange_mapUnread {u u' : State} {m : Nat} (hu : u' = u.mapUnread g)
    (h : s.withDataRange m u = .next t) : (s.mapUnread g).withDataRange m u' = .next (t.mapUnread g) := by
  subst hu
  by_cases hr : m = 0 ∨ s.i.toNat + m - 1 ≤ 0xFFF
  · cases (s.withDataRange_ok u m hr).symm.trans h
    exact (s.mapUnread g).withDataRange_ok _ m hr
  · have hr : 0 < m ∧ s.i.toNat + m - 1 > 0xFFF := by omega
    cases (s.withDataRange_fault u m hr).symm.trans h
    exact (s.mapUnread g).withDataRange_fault _ m hr

/-- An instruction that neither depends on the mode nor raises `REDRAW` or `UNK` neither reads nor writes the unread
parts. -/
theorem exec_mapUnread (i : Instr) (hm : dependsOnMode i = false) (hd : (touchesOf i s).display = false)
    (hs : (touchesOf i s).signal = false) (h : exec i s = .next t) :
    exec i (s.mapUnread g) = .next (t.mapUnread g) := by
  cases i
  case cls | drw => cases hd
  case sys | unknown => cases hs
  case shr | shl | storeRegs | loadRegs => cases hm
  case call =>
    by_cases hsp : s.sp.val < 16
    · cases (exec_call_of_lt hsp).symm.trans h
      exact exec_call_of_lt (s := s.mapUnread g) hsp
    · cases (exec_call_of_full hsp).symm.trans h
      exact exec_call_of_full (s := s.mapUnread g) hsp
  case ret =>
    by_cases hsp : 0 < s.sp.val
    · cases (exec_ret_of_pos hsp).symm.trans h
      exact exec_ret_of_pos (s := s.mapUnread g) hsp
    · cases (exec_ret_of_empty hsp).symm.trans h
      exact exec_ret_of_empty (s := s.mapUnread g) hsp
  case skp x | sknp x =>
    by_cases hx : (s.reg x).toNat > 15
    · cases (State.skipOnKey_of_gt hx).symm.trans h
      exact State.skipOnKey_of_gt (s := s.mapUnread g) hx
    · cases (State.skipOnKey_of_le hx).symm.trans h
      exact State.skipOnKey_of_le (s := s.mapUnread g) hx
  case ldVxK =>
    cases hk : selectKey s.pressedKeys with
    | none =>
      cases (exec_ldVxK_of_none hk).symm.trans h
      exact exec_ldVxK_of_none (s := s.mapUnread g) hk
    | some k =>
      cases (exec_ldVxK_of_some hk).symm.trans h
      exact exec_ldVxK_of_some (s := s.mapUnread g) hk
  case ldB x =>
    refine State.withDataRange_mapUnread g ?_ h
    exact congrArg State.advance (s.writeBytes_mapUnread g s.i.toNat (bcdDigits (s.reg x)))
  all_goals cases h; rfl

/-- The block transfers read the mode but no latch (rules R194, R195). -/
theorem State.blockIndex_mapUnread (hg : ∀ p, (g p).mode = p.mode) (s : State) (n : Nat) :
    (s.mapUnread g).blockIndex n = (s.blockIndex n).mapUnread g := by
  have hmode : (s.mapUnread g).mode = s.mode := hg _
  unfold State.blockIndex
  rw [hmode]
  split <;> rfl

theorem exec_storeRegs_mapUnread (hg : ∀ p, (g p).mode = p.mode) {x : Reg} (h : exec (.storeRegs x) s = .next t) :
    exec (.storeRegs x) (s.mapUnread g) = .next (t.mapUnread g) := by
  refine State.withDataRange_mapUnread g ?_ h
  rw [State.writeBytes_mapUnread, State.blockIndex_mapUnread g hg]
  rfl

theorem exec_loadRegs_mapUnread (hg : ∀ p, (g p).mode = p.mode) {x : Reg} (h : exec (.loadRegs x) s = .next t) :
    exec (.loadRegs x) (s.mapUnread g) = .next (t.mapUnread g) := by
  refine State.withDataRange_mapUnread g ?_ h
  exact congrArg State.advance (State.blockIndex_mapUnread g hg (s.setRegsFrom (s.readBytes s.i.toNat (x.val + 1))) _)

end

/-- Settles O50: the instructions that raise a latch do so in every mode, the others by `exec_mapUnread`. -/
theorem modeGovernsOnlyFourInstructions : Obligations.ModeGovernsOnlyFourInstructions := by
  intro i s t m hi h
  cases i
  case cls | sys | unknown => cases h; rfl
  case drw => exact State.withDataRange_mapUnread (Unread.withMode m) rfl h
  all_goals exact exec_mapUnread (Unread.withMode m) _ hi rfl rfl h

/-- Settles O51: the instructions that raise a latch, and those that depend on the mode, read none, the others by
`exec_mapUnread`. -/
theorem latchesDoNotInfluenceExecution : Obligations.LatchesDoNotInfluenceExecution := by
  intro i s t a b c w h
  cases i
  case cls | sys | unknown | shr | shl => cases h; exact ⟨_, rfl, rfl⟩
  case drw n =>
    by_cases hr : n.toNat = 0 ∨ s.i.toNat + n.toNat - 1 ≤ 0xFFF
    · cases (s.withDataRange_ok _ _ hr).symm.trans h
      exact ⟨_, (s.mapUnread (.withLatches a b c w)).withDataRange_ok _ _ hr, rfl⟩
    · have hr : 0 < n.toNat ∧ s.i.toNat + n.toNat - 1 > 0xFFF := by omega
      cases (s.withDataRange_fault _ _ hr).symm.trans h
      exact ⟨_, (s.mapUnread (.withLatches a b c w)).withDataRange_fault _ _ hr, rfl⟩
  case storeRegs => exact ⟨_, exec_storeRegs_mapUnread (.withLatches a b c w) (fun _ => rfl) h, rfl⟩
  case loadRegs => exact ⟨_, exec_loadRegs_mapUnread (.withLatches a b c w) (fun _ => rfl) h, rfl⟩
  all_goals exact ⟨_, exec_mapUnread (.withLatches a b c w) _ rfl rfl rfl h, rfl⟩

end Sys2Proof.Machine

/-!
The range check of a fetch (rule R66): a cycle past 0xFFE records the fetch fault and does nothing else, and no
instruction a cycle executes records it.
-/

namespace Sys2Proof.Machine

section
variable {s t : State}

theorem step_of_fetch_outside (hf : s.faultCause = .noFault) (hp : s.pc.toNat > 0xFFE) :
    step s = .next (s.raiseFault .fetchOutOfRange s.pc) := by
  have hp' : s.fetchOutOfRange = true := s.fetchOutOfRange_iff.mpr hp
  simp [step, s.faulted_eq_false.mpr hf, hp', State.raiseFetchFault]

@[simp] theorem State.endCycle_faultCause (s : State) : s.endCycle.faultCause = s.faultCause := by
  unfold State.endCycle; split <;> simp

/-- A fault an instruction raises is recorded truly, and the record of a fetch fault says that `PC` is above 0xFFE. -/
theorem Executes.cause_ne_fetchOutOfRange {i : Instr} (he : Executes i s t) (hf : s.faultCause = .noFault)
    (hp : s.pc.toNat ≤ 0xFFE) : t.faultCause ≠ .fetchOutOfRange := by
  cases he with
  | faults cause info expected raised =>
    subst raised
    rintro rfl
    obtain ⟨-, hpc⟩ := faultRecordOk_of_expectedFault i s .fetchOutOfRange info expected
    exact absurd hp (Nat.not_le.mpr hpc)
  | completes _ hc => simp [hc.cause, hf]

end

/-- Settles O10: past 0xFFE by the step's equation, elsewhere through the instruction the cycle executes. -/
theorem fetchOutsideMemoryFaults : Obligations.FetchOutsideMemoryFaults := by
  intro s hf
  refine ⟨step_of_fetch_outside hf, fun hp => ?_⟩
  obtain ⟨t, ht, he⟩ := exec_cases (decodeWord s.fetchWord) s
  refine ⟨t.endCycle, step_of_exec s t hf hp ht, ?_⟩
  rw [t.endCycle_faultCause]
  exact he.cause_ne_fetchOutOfRange hf hp

end Sys2Proof.Machine

/-!
Decoding against encoding (rules R91 to R99): the two undo each other, the rows of the opcode table by the fields their
masks keep, and the words with no handler by arithmetic.
-/

namespace Sys2Proof.Machine

/-! ### Decoding undoes encoding (rules R94, R96) -/

/-- Settles O3: one round-trip lemma per row of the opcode map. -/
theorem decodeUndoesEncode : Obligations.DecodeUndoesEncode := by
  intro i
  cases i with
  | cls => exact Laws.RoundTrip.cls
  | ret => exact Laws.RoundTrip.ret
  | sys nnn => exact Laws.RoundTrip.sys nnn
  | jp nnn => exact Laws.RoundTrip.jp nnn
  | call nnn => exact Laws.RoundTrip.call nnn
  | seImm x nn => exact Laws.RoundTrip.seImm x nn
  | sneImm x nn => exact Laws.RoundTrip.sneImm x nn
  | seReg x y => exact Laws.RoundTrip.seReg x y
  | ldImm x nn => exact Laws.RoundTrip.ldImm x nn
  | addImm x nn => exact Laws.RoundTrip.addImm x nn
  | ldReg x y => exact Laws.RoundTrip.ldReg x y
  | orReg x y => exact Laws.RoundTrip.orReg x y
  | andReg x y => exact Laws.RoundTrip.andReg x y
  | xorReg x y => exact Laws.RoundTrip.xorReg x y
  | addReg x y => exact Laws.RoundTrip.addReg x y
  | subReg x y => exact Laws.RoundTrip.subReg x y
  | shr x y => exact Laws.RoundTrip.shr x y
  | subnReg x y => exact Laws.RoundTrip.subnReg x y
  | shl x y => exact Laws.RoundTrip.shl x y
  | sneReg x y => exact Laws.RoundTrip.sneReg x y
  | ldI nnn => exact Laws.RoundTrip.ldI nnn
  | jpV0 nnn => exact Laws.RoundTrip.jpV0 nnn
  | rnd x nn => exact Laws.RoundTrip.rnd x nn
  | drw x y n => exact Laws.RoundTrip.drw x y n
  | skp x => exact Laws.RoundTrip.skp x
  | sknp x => exact Laws.RoundTrip.sknp x
  | ldVxDt x => exact Laws.RoundTrip.ldVxDt x
  | ldVxK x => exact Laws.RoundTrip.ldVxK x
  | ldDtVx x => exact Laws.RoundTrip.ldDtVx x
  | ldStVx x => exact Laws.RoundTrip.ldStVx x
  | addI x => exact Laws.RoundTrip.addI x
  | ldF x => exact Laws.RoundTrip.ldF x
  | ldB x => exact Laws.RoundTrip.ldB x
  | storeRegs x => exact Laws.RoundTrip.storeRegs x
  | loadRegs x => exact Laws.RoundTrip.loadRegs x
  | unknown w => exact Laws.RoundTrip.unknown w

/-- Settles O7: each word is the encoding of the instruction it stands for, so O3 gives it back. -/
theorem writtenOutWordsDecode : Obligations.WrittenOutWordsDecode :=
  ⟨decodeUndoesEncode .cls rfl, decodeUndoesEncode (.call 0x301) rfl, decodeUndoesEncode (.ldImm 10 0x07) rfl,
    decodeUndoesEncode (.subReg 1 2) rfl, decodeUndoesEncode (.ldI 0x123) rfl, decodeUndoesEncode (.drw 3 4 5) rfl,
    decodeUndoesEncode (.sknp 1) rfl, decodeUndoesEncode (.storeRegs 2) rfl,
    decodeUndoesEncode (.unknown 0x5121) rfl, decodeUndoesEncode (.sys 0x1E0) rfl⟩

/-! ### Encoding undoes decoding: no bit of a word is dropped (rules R92, R94) -/

section
variable {w : Word} {f : BitVec 4}

theorem wordNNN_of_family (hf : (fieldFamily w).toNat = f.toNat) : wordNNN f (fieldNNN w) = w :=
  BitVec.eq_of_toNat_eq hf ▸ wordNNN_fields w

theorem wordXNN_of_family (hf : (fieldFamily w).toNat = f.toNat) : wordXNN f (fieldX w) (fieldNN w) = w :=
  BitVec.eq_of_toNat_eq hf ▸ wordXNN_fields w

theorem wordXYN_of_family (hf : (fieldFamily w).toNat = f.toNat) :
    wordXYN f (fieldX w) (fieldY w) (fieldN w) = w :=
  BitVec.eq_of_toNat_eq hf ▸ wordXYN_fields w

theorem wordXNN_of_family_lowByte {nn : Byte} (hf : (fieldFamily w).toNat = f.toNat)
    (hn : (fieldNN w).toNat = nn.toNat) : wordXNN f (fieldX w) nn = w :=
  BitVec.eq_of_toNat_eq hn ▸ wordXNN_of_family hf

theorem wordXYN_of_family_lowNibble {n : BitVec 4} (hf : (fieldFamily w).toNat = f.toNat)
    (hn : (fieldN w).toNat = n.toNat) : wordXYN f (fieldX w) (fieldY w) n = w :=
  BitVec.eq_of_toNat_eq hn ▸ wordXYN_of_family hf

theorem encode_decodeFamily8 (hf : (fieldFamily w).toNat = 8) : encode (decodeFamily8 w) = w := by
  unfold decodeFamily8
  split
  case h_10 => rfl
  all_goals exact wordXYN_of_family_lowNibble hf ‹_›

theorem encode_decodeFamilyE (hf : (fieldFamily w).toNat = 14) : encode (decodeFamilyE w) = w := by
  unfold decodeFamilyE
  split
  case h_3 => rfl
  all_goals exact wordXNN_of_family_lowByte hf ‹_›

theorem encode_decodeFamilyF (hf : (fieldFamily w).toNat = 15) : encode (decodeFamilyF w) = w := by
  unfold decodeFamilyF
  split
  case h_10 => rfl
  all_goals exact wordXNN_of_family_lowByte hf ‹_›

end

theorem encode_decodeWord (w : Word) : encode (decodeWord w) = w := by
  have := (fieldFamily w).isLt
  unfold decodeWord
  split
  case h_1 hf =>
    split
    · exact .symm ‹_›
    · split
      · exact .symm ‹_›
      · exact wordNNN_of_family hf
  case h_6 hf | h_10 hf =>
    split
    · exact wordXYN_of_family_lowNibble hf (congrArg BitVec.toNat ‹_›)
    · rfl
  case h_2 hf | h_3 hf | h_11 hf | h_12 hf => exact wordNNN_of_family hf
  case h_4 hf | h_5 hf | h_7 hf | h_8 hf | h_13 hf => exact wordXNN_of_family hf
  case h_14 hf => exact wordXYN_of_family hf
  case h_9 hf => exact encode_decodeFamily8 hf
  case h_15 hf => exact encode_decodeFamilyE hf
  case h_16 => exact encode_decodeFamilyF (by simp_all; omega)

/-- Settles O4, family by family: the fields of a word put it together again (`wordNNN_fields` and its like). -/
theorem encodeUndoesDecode : Obligations.EncodeUndoesDecode :=
  fun w => ⟨wellFormed_decodeWord w, encode_decodeWord w⟩

/-! ### The opcode table by fields (rules R96, R99) -/

section
variable (w m : Word)

theorem fieldFamily_and : fieldFamily (w &&& m) = fieldFamily w &&& fieldFamily m := BitVec.extractLsb'_and

theorem fieldNNN_and : fieldNNN (w &&& m) = fieldNNN w &&& fieldNNN m := BitVec.extractLsb'_and

/-- A mask of the family and the low `k` bits compares these two (rule R99). -/
theorem and_mask_eq_iff {mask : Word} (k : Nat) (hf : fieldFamily mask = BitVec.allOnes 4)
    (hk : (fieldNNN mask).toNat = 2 ^ k - 1) :
    w &&& mask = m ↔
      (fieldFamily w).toNat = m.toNat / 0x1000 ∧ (fieldNNN w).toNat % 2 ^ k = m.toNat % 0x1000 := by
  have hn : (fieldNNN (w &&& mask)).toNat = (fieldNNN w).toNat % 2 ^ k := by
    rw [fieldNNN_and, BitVec.toNat_and, hk, Nat.and_two_pow_sub_one_eq_mod]
  have := (fieldNNN (w &&& mask)).isLt
  rw [← wordNNN_fields (w &&& mask), ← BitVec.toNat_inj, toNat_wordNNN, ← hn, fieldFamily_and, hf,
    BitVec.and_allOnes]
  omega

@[simp] theorem and_FFFF_eq_iff : w &&& 0xFFFF#16 = m ↔
    (fieldFamily w).toNat = m.toNat / 0x1000 ∧ (fieldNNN w).toNat = m.toNat % 0x1000 := by
  rw [and_mask_eq_iff w m 12 rfl rfl, Nat.mod_eq_of_lt (fieldNNN w).isLt]

@[simp] theorem and_F000_eq_iff : w &&& 0xF000#16 = m ↔
    (fieldFamily w).toNat = m.toNat / 0x1000 ∧ m.toNat % 0x1000 = 0 := by
  rw [and_mask_eq_iff w m 0 rfl rfl, Nat.pow_zero, Nat.mod_one, eq_comm (a := 0)]

@[simp] theorem and_F00F_eq_iff : w &&& 0xF00F#16 = m ↔
    (fieldFamily w).toNat = m.toNat / 0x1000 ∧ (fieldN w).toNat = m.toNat % 0x1000 := by
  rw [and_mask_eq_iff w m 4 rfl rfl, show 2 ^ 4 = 0x10 from rfl, toNat_fieldNNN, toNat_fieldN,
    Nat.mod_mod_of_dvd _ (by decide)]

@[simp] theorem and_F0FF_eq_iff : w &&& 0xF0FF#16 = m ↔
    (fieldFamily w).toNat = m.toNat / 0x1000 ∧ (fieldNN w).toNat = m.toNat % 0x1000 := by
  rw [and_mask_eq_iff w m 8 rfl rfl, show 2 ^ 8 = 0x100 from rfl, toNat_fieldNNN, toNat_fieldNN,
    Nat.mod_mod_of_dvd _ (by decide)]

/-- The rows are tried in their order (rule R99). -/
theorem findIdx_row_cons (row : Word × Word) (rows : List (Word × Word)) :
    (row :: rows).findIdx (fun row => w &&& row.1 == row.2) =
      if w &&& row.1 = row.2 then 0 else rows.findIdx (fun row => w &&& row.1 == row.2) + 1 := by
  rw [List.findIdx_cons, Bool.cond_eq_ite]
  simp only [beq_iff_eq]

end

/-- A word of rule R97 is left to the catch-all row. -/
theorem firstMatch_of_noRow (w : Word) (h : noRow w = true) : firstMatch w = 35 := by
  unfold noRow at h
  simp only [firstMatch, opcodeTable, List.cons_append, List.nil_append]
  split at h
  case h_1 hf | h_3 hf =>
    have hn : (fieldN w).toNat ≠ 0 := fun e => bne_iff_ne.mp h (BitVec.eq_of_toNat_eq e)
    simp [findIdx_row_cons, hf, hn]
  case h_2 hf =>
    simp only [List.mem_cons, List.not_mem_nil, or_false, decide_eq_true_eq] at h
    have hlow : ∀ k ≤ 7, (fieldN w).toNat ≠ k := by omega
    have hE : (fieldN w).toNat ≠ 0xE := by omega
    simp [findIdx_row_cons, hf, hlow, hE]
  case h_4 hf | h_5 hf =>
    simp only [List.mem_cons, List.not_mem_nil, or_false, Bool.not_eq_true', decide_eq_false_iff_not, not_or] at h
    simp [findIdx_row_cons, hf, h]
  case h_6 => cases h

/-- The row of a well-formed instruction is the first to take its word. -/
theorem firstMatch_encode (i : Instr) (h : WellFormed i = true) : firstMatch (encode i) = rowOf i := by
  cases i
  case cls | ret => rfl
  case unknown w => exact firstMatch_of_noRow w h
  all_goals simp only [firstMatch, opcodeTable, List.cons_append, List.nil_append, encode, rowOf]
  case sys nnn =>
    simp only [WellFormed, Bool.and_eq_true, bne_iff_ne, ne_eq, ← BitVec.toNat_inj, BitVec.reduceToNat] at h
    simp [findIdx_row_cons, h]
  all_goals simp [findIdx_row_cons]

/-- Settles O5: a word is the encoding of what it decodes to (O4). -/
theorem decodeTakesTheFirstMatchingRow : Obligations.DecodeTakesTheFirstMatchingRow := by
  intro w
  have hrow := firstMatch_encode (decodeWord w) (wellFormed_decodeWord w)
  rw [encode_decodeWord] at hrow
  exact hrow.symm

/-! ### The words with no handler (rule R97) -/

theorem decodeWord_eq_unknown_iff (w : Word) : decodeWord w = .unknown w ↔ noRow w = true := by
  constructor
  · intro h
    have hwf := wellFormed_decodeWord w
    rwa [h] at hwf
  · exact decodeUndoesEncode (.unknown w)

theorem decodeWord_eq_sys_iff (w : Word) : (∃ nnn, decodeWord w = .sys nnn) ↔
    (fieldFamily w).toNat = 0 ∧ w ≠ 0x00E0#16 ∧ w ≠ 0x00EE#16 := by
  constructor
  · rintro ⟨nnn, h⟩
    have hw : wordNNN 0 nnn = w := by simpa [h, encode] using encode_decodeWord w
    refine ⟨by simp [← hw], ?_, ?_⟩ <;>
    · rintro rfl
      cases h
  · rintro ⟨hf, h₁, h₂⟩
    have hdec := decodeUndoesEncode _ (wellFormed_sys_fieldNNN w hf h₁ h₂)
    rw [encode, wordNNN_of_family hf] at hdec
    exact ⟨_, hdec⟩

theorem noRow_iff (w : Word) : noRow w = true ↔
    ((w.toNat / 0x1000 = 0x5 ∨ w.toNat / 0x1000 = 0x9) ∧ w.toNat % 0x10 ≠ 0) ∨
    (w.toNat / 0x1000 = 0x8 ∧ w.toNat % 0x10 ∈ [0x8, 0x9, 0xA, 0xB, 0xC, 0xD, 0xF]) ∨
    (w.toNat / 0x1000 = 0xE ∧ w.toNat % 0x100 ∉ [0x9E, 0xA1]) ∨
    (w.toNat / 0x1000 = 0xF ∧ w.toNat % 0x100 ∉ [0x07, 0x0A, 0x15, 0x18, 0x1E, 0x29, 0x33, 0x55, 0x65]) := by
  have hN : fieldN w = 0 ↔ w.toNat % 0x10 = 0 := by rw [← BitVec.toNat_inj, toNat_fieldN]; rfl
  simp only [noRow, toNat_fieldFamily, toNat_fieldN, toNat_fieldNN]
  split <;> simp_all

/-- Settles O6: SYS and the catch-all row each take exactly their own words, by O3 and O4. -/
theorem wordsWithoutHandler : Obligations.WordsWithoutHandler := by
  intro w
  rw [decodeWord_eq_sys_iff, decodeWord_eq_unknown_iff, noRow_iff, toNat_fieldFamily]
  simp only [ne_eq, ← BitVec.toNat_inj]
  rfl

end Sys2Proof.Machine

/-!
The cycle (rules R120 to R129): what a fetch reads where a word was placed, the timer steps as one arithmetic update,
and what each instruction does to `PC`.
-/

namespace Sys2Proof.Machine

section
variable (s : State)

/-! ### The fetch of a placed word (rules R62, R120; log entries 9 and 10) -/

theorem State.readyToFetch_faultCause : s.readyToFetch.faultCause = .noFault := by
  unfold State.readyToFetch
  extract_lets t
  have ht : t.faultCause = .noFault := by
    by_cases hf : s.faultCause = .noFault
    · simpa [t, s.faulted_eq_false.mpr hf] using hf
    · simp [t, s.faulted_eq_true.mpr hf]
  split <;> exact ht

theorem State.readyToFetch_pc_le : s.readyToFetch.pc.toNat ≤ 0xFFE := by
  unfold State.readyToFetch
  extract_lets t
  split
  · rw [State.setPc_pc]; decide
  · next hp => exact Nat.not_lt.mp fun hgt => hp (t.fetchOutOfRange_iff.mpr hgt)

/-- A state that can fetch is left as it is. -/
theorem State.readyToFetch_eq_self (hf : s.faultCause = .noFault) (hp : s.pc.toNat ≤ 0xFFE) : s.readyToFetch = s := by
  have hin : s.fetchOutOfRange = false := decide_eq_false (Nat.not_lt.mpr hp)
  simp [State.readyToFetch, s.faulted_eq_false.mpr hf, hin]

theorem tableWord_toNat (w : Word) : tableWord 16 w.toNat = w := by
  rw [tableWord, Nat.mod_eq_of_lt w.isLt, BitVec.ofNat_toNat, BitVec.setWidth_eq]

theorem State.fetchWord_writeBytes (w : Word) : (s.writeBytes s.pc.toNat (wordBytes w)).fetchWord = w := by
  simp [State.fetchWord, State.readByte_writeBytes, wordBytes, bigEndian_bytes]

theorem State.withFetchWord_eq (w : Word) :
    s.withFetchWord 16 w.toNat = s.readyToFetch.writeBytes s.readyToFetch.pc.toNat (wordBytes w) := by
  rw [State.withFetchWord, tableWord_toNat]

/-- From every state, the step after a word is placed fetches that word. -/
theorem State.fetches_withFetchWord (w : Word) :
    (s.withFetchWord 16 w.toNat).faultCause = .noFault ∧ (s.withFetchWord 16 w.toNat).pc.toNat ≤ 0xFFE ∧
      (s.withFetchWord 16 w.toNat).fetchWord = w := by
  rw [s.withFetchWord_eq w, State.writeBytes_faultCause, State.writeBytes_pc]
  exact ⟨s.readyToFetch_faultCause, s.readyToFetch_pc_le, s.readyToFetch.fetchWord_writeBytes w⟩

theorem State.fetchWord_eq_of_bytes (w : Word)
    (h : (s.readByte s.pc.toNat).toNat * 0x100 + (s.readByte (s.pc.toNat + 1)).toNat = w.toNat) : s.fetchWord = w :=
  BitVec.eq_of_toNat_eq ((toNat_bigEndian _ _).trans h)

/-! ### The timer steps (rules R120, R125) -/

theorem decrement_eq_ofNat (b : Byte) : (if b = 0 then 0 else b - 1) = BitVec.ofNat 8 (b.toNat - 1) := by
  split
  · next h => rw [h]; rfl
  · bv_omega

theorem State.tickDelay_eq : s.tickDelay = { s with dt := BitVec.ofNat 8 (s.dt.toNat - 1) } := by
  have hdt : s.tickDelay = { s with dt := s.tickDelay.dt } := by unfold State.tickDelay; split <;> rfl
  rw [hdt, State.tickDelay_dt, decrement_eq_ofNat]

theorem State.tickSound_eq : s.tickSound =
    { s with st := BitVec.ofNat 8 (s.st.toNat - 1), tone := s.tone || decide (s.st.toNat = 1) } := by
  have hst : s.tickSound = { s with st := s.tickSound.st, tone := s.tickSound.tone } := by
    unfold State.tickSound; split <;> rfl
  have hone : (s.st == 1) = decide (s.st.toNat = 1) := by
    rw [Bool.eq_iff_iff, beq_iff_eq, decide_eq_true_iff, ← BitVec.toNat_inj]; rfl
  rw [hst, State.tickSound_st, State.tickSound_tone, decrement_eq_ofNat, hone]

/-- Both timer steps at once, after an instruction that raised no fault. -/
theorem State.endCycle_eq (h : s.faultCause = .noFault) : s.endCycle = { s with
    dt := BitVec.ofNat 8 (s.dt.toNat - 1), st := BitVec.ofNat 8 (s.st.toNat - 1),
    tone := s.tone || decide (s.st.toNat = 1) } := by
  rw [s.endCycle_of_noFault h, State.tickSound_eq, State.tickDelay_eq]

theorem step_of_faulted (h : s.faultCause ≠ .noFault) : step s = .next s := by
  simp [step, s.faulted_eq_true.mpr h]

/-! ### The targets of the jumps (rules R93, R143) -/

theorem toNat_addressOf (nnn : BitVec 12) : (addressOf nnn).toNat = nnn.toNat := by
  rw [addressOf, BitVec.toNat_setWidth_of_le (by decide)]

/-- NNN and V0 are small enough that their sum does not wrap. -/
theorem State.toNat_offsetTarget (nnn : BitVec 12) : (s.offsetTarget nnn).toNat = nnn.toNat + (s.reg 0).toNat := by
  have := nnn.isLt
  have := (s.reg 0).isLt
  rw [State.offsetTarget, BitVec.toNat_add, toNat_addressOf, BitVec.toNat_setWidth]
  omega

theorem State.skipIf_pc_cases (c : Bool) : (s.skipIf c).pc = s.pc + 2 ∨ (s.skipIf c).pc = s.pc + 4 := by
  cases c
  · exact .inl rfl
  · exact .inr rfl

end

/-- Settles O9: a placed word is the word fetched, and placing it writes its two bytes. -/
theorem stepRunsAPlacedWord : Obligations.StepRunsAPlacedWord := by
  refine fun s w => ⟨?_, fun hf hp => ?_⟩
  · obtain ⟨hfault, hpc, hword⟩ := s.fetches_withFetchWord w
    obtain ⟨u, hu, -⟩ := exec_cases (decodeWord w) (s.withFetchWord 16 w.toNat)
    exact ⟨u, hu, step_of_exec _ u hfault hpc (by rwa [hword])⟩
  · rw [s.withFetchWord_eq w, s.readyToFetch_eq_self hf hp]
    refine (Frame.refl _ s).writeBytes fun k (hk : k < 2) => ?_
    obtain rfl | rfl : k = 0 ∨ k = 1 := by omega
    all_goals simp

/-- Settles O44: no instruction stops (`exec_cases`), and a frozen core and a fetch fault are next states too. -/
theorem everyStepAnswersANextState : Obligations.EveryStepAnswersANextState := exists_step_eq_next

/-- Settles O47, instruction by instruction: a branch through its equations, any other by the advance it ends in. -/
theorem pcChangesAsTabulated : Obligations.PcChangesAsTabulated := by
  intro i s t _ h ht
  cases i
  case jp nnn => cases h; exact toNat_addressOf nnn
  case jpV0 nnn => cases h; exact s.toNat_offsetTarget nnn
  case call nnn =>
    by_cases hsp : s.sp.val < 16
    · cases (exec_call_of_lt hsp).symm.trans h
      exact toNat_addressOf nnn
    · cases (exec_call_of_full hsp).symm.trans h
      cases ht
  case ret =>
    by_cases hsp : 0 < s.sp.val
    · cases (exec_ret_of_pos hsp).symm.trans h
      exact ⟨⟨s.sp.val - 1, by omega⟩, (Nat.sub_add_cancel hsp).symm, rfl⟩
    · cases (exec_ret_of_empty hsp).symm.trans h
      cases ht
  case seImm | sneImm | seReg | sneReg => cases h; exact s.skipIf_pc_cases _
  case skp x | sknp x =>
    by_cases hx : (s.reg x).toNat > 15
    · cases (State.skipOnKey_of_gt hx).symm.trans h
      cases ht
    · cases (State.skipOnKey_of_le hx).symm.trans h
      exact s.skipIf_pc_cases _
  case ldVxK =>
    cases hk : selectKey s.pressedKeys with
    | none =>
      cases (exec_ldVxK_of_none hk).symm.trans h
      exact .inl rfl
    | some k =>
      cases (exec_ldVxK_of_some hk).symm.trans h
      exact .inr rfl
  case drw | ldB | storeRegs | loadRegs => simp [eq_of_withDataRange h ht]
  all_goals cases h; rfl

/-- Settles O8: the two bytes are the word fetched, and it decodes to the instruction (O3). -/
theorem stepRunsTheFetchedInstruction : Obligations.StepRunsTheFetchedInstruction := by
  intro i s t hi hf hp hbytes h
  have hdecode : decodeWord s.fetchWord = i := by
    rw [s.fetchWord_eq_of_bytes (encode i) hbytes, decodeUndoesEncode i hi]
  have hstep := step_of_exec s t hf hp (by rwa [hdecode])
  exact ⟨fun ht => by rw [hstep, t.endCycle_of_fault ht], fun ht => by rw [hstep, t.endCycle_eq ht]⟩

/-- Settles O11, by the step's equation on a core with a fault recorded. -/
theorem faultedCoreIsFrozen : Obligations.FaultedCoreIsFrozen := step_of_faulted

/-- A signalled word is recorded and passed over, and nothing else changes (rules R128, R271). -/
theorem Frame.signalUnknown_advance (s : State) (w : Word) : Frame { signal := true } s (s.signalUnknown w).advance :=
  (Frame.refl _ s).signalUnknown.advance

/-- Settles O43: each of the two signals its word and advances. -/
theorem unknownOpcodesAreSignalled : Obligations.UnknownOpcodesAreSignalled := by
  intro w nnn s
  refine ⟨⟨_, rfl, rfl, rfl, rfl, .signalUnknown_advance s w⟩, ⟨_, rfl, rfl, ?_, rfl, .signalUnknown_advance s _⟩⟩
  simp [toNat_wordNNN]

end Sys2Proof.Machine

/-!
The control transfer instructions (rules R140 to R147): where each leaves `PC`, and what the call and the return do
to the stack; that nothing else changes is the frame of the operations each is made of.
-/

namespace Sys2Proof.Machine

/-- Settles O13: NNN as an address is NNN as a number. -/
theorem jumpSetsPc : Obligations.JumpSetsPc :=
  fun nnn s => ⟨_, rfl, toNat_addressOf nnn, (Frame.refl _ s).setPc⟩

/-- Settles O14: the sum does not wrap (`State.toNat_offsetTarget`). -/
theorem jumpWithOffsetAddsV0 : Obligations.JumpWithOffsetAddsV0 :=
  fun nnn s => ⟨_, rfl, s.toNat_offsetTarget nnn, (Frame.refl _ s).setPc⟩

/-- Settles O15: the push writes one entry; with all 16 in use the call raises its fault. -/
theorem callPushesItsOwnAddress : Obligations.CallPushesItsOwnAddress := by
  refine fun nnn s => ⟨fun hsp => ?_, fun hfull => exec_call_of_full (by omega)⟩
  refine ⟨_, exec_call_of_lt hsp, toNat_addressOf nnn, rfl, fun j => ?_, (Frame.refl _ s).setStack.setPc⟩
  simp [Vector.getElem_set, eq_comm]

/-- Settles O16: the popped entry is the one below `SP`; with none in use the return raises its fault. -/
theorem returnResumesAfterThePoppedCall : Obligations.ReturnResumesAfterThePoppedCall := by
  refine fun s => ⟨fun j hsp => ?_, fun hempty => exec_ret_of_empty (by omega)⟩
  have hj : s.sp.val - 1 = j.val := by omega
  refine ⟨_, exec_ret_of_pos (by omega), ?_, hj, rfl, (Frame.refl _ s).setStack.setPc⟩
  simp [hj]

/-! ### The two conditions of the skips (rules R144 to R147) -/

section
variable (s : State) (a b : Byte)

theorem State.skipIf_beq_pc : (s.skipIf (a == b)).pc = if a = b then s.pc + 4 else s.pc + 2 := by
  by_cases h : a = b <;> simp [h]

theorem State.skipIf_bne_pc : (s.skipIf (a != b)).pc = if a = b then s.pc + 2 else s.pc + 4 := by
  by_cases h : a = b <;> simp [h]

end

/-- Settles O17: each is a skip on its condition. -/
theorem skipsComparingAnImmediate : Obligations.SkipsComparingAnImmediate :=
  fun x nn s => ⟨⟨_, rfl, s.skipIf_beq_pc (s.reg x) nn, (Frame.refl _ s).skipIf⟩,
    ⟨_, rfl, s.skipIf_bne_pc (s.reg x) nn, (Frame.refl _ s).skipIf⟩⟩

/-- Settles O18: each is a skip on its condition, whether or not X and Y name the same register. -/
theorem skipsComparingRegisters : Obligations.SkipsComparingRegisters :=
  fun x y s => ⟨⟨_, rfl, s.skipIf_beq_pc (s.reg x) (s.reg y), (Frame.refl _ s).skipIf⟩,
    ⟨_, rfl, s.skipIf_bne_pc (s.reg x) (s.reg y), (Frame.refl _ s).skipIf⟩⟩

end Sys2Proof.Machine

/-!
The register load, move, logic and arithmetic instructions (rules R160 to R172): each ends in one of two writes, a
result alone or a result and then its flag; what is left of each is the value it writes, as a number.
-/

namespace Sys2Proof.Machine

section
variable (s : State) (x : Reg) (b : Byte) (f : Bool)

/-! ### The two ways an instruction of this family ends (rules R15, R24) -/

/-- A result alone changes Vx and the program counter. -/
theorem Frame.result : Frame { regs := [x] } s (s.setReg x b).advance := (Frame.refl _ s).setReg.advance

/-- A result and its flag change Vx, VF and the program counter. -/
theorem Frame.resultFlag : Frame { regs := [x, vf] } s ((s.setReg x b).setFlag f).advance :=
  (Frame.refl _ s).setReg.setFlag.advance

theorem State.reg_result : (s.setReg x b).advance.reg x = b := s.reg_setReg_same x b

/-- The flag, written second, leaves the result in any register but VF. -/
theorem State.reg_resultFlag (hx : x ≠ vf) : ((s.setReg x b).setFlag f).advance.reg x = b := by
  rw [State.reg_advance, State.reg_setFlag, if_neg hx, State.reg_setReg_same]

/-- The flag, written second, is what VF holds, also when VF is the destination of the result. -/
theorem State.vf_resultFlag : ((s.setReg x b).setFlag f).advance.reg vf = flagByte f :=
  State.reg_setReg_same _ vf (flagByte f)

end

/-! ### The values of the flags (rules R168 to R172) -/

theorem flagByte_carryOut (a b : Byte) : flagByte (carryOut a b) = if a.toNat + b.toNat > 255 then 1 else 0 := by
  simp [flagByte, carryOut]

theorem flagByte_noBorrow (a b : Byte) : flagByte (noBorrow a b) = if b.toNat > a.toNat then 0 else 1 := by
  simp only [flagByte, noBorrow, Bool.not_eq_true', decide_eq_false_iff_not, ite_not]

theorem toNat_flagByte (f : Bool) : (flagByte f).toNat = f.toNat := by
  cases f <;> rfl

/-- Bit 0 is the remainder of the halving. -/
theorem toNat_flagByte_bitOutRight (b : Byte) : (flagByte (bitOutRight b)).toNat = b.toNat % 2 := by
  rw [toNat_flagByte, bitOutRight, BitVec.getLsbD, Nat.toNat_testBit, pow_zero, Nat.div_one]

/-- Bit 7 is the highest of a byte, so the quotient by its weight is the bit itself. -/
theorem toNat_flagByte_bitOutLeft (b : Byte) : (flagByte (bitOutLeft b)).toNat = b.toNat / 128 := by
  rw [toNat_flagByte, bitOutLeft, BitVec.getLsbD, Nat.toNat_testBit]
  omega

/-! ### The results as natural numbers (rules R12, R169 to R172) -/

theorem toNat_sub_byte (a b : Byte) : (a - b).toNat = (a.toNat + 256 - b.toNat) % 256 := by
  bv_omega

theorem toNat_shiftRight_one_byte (b : Byte) : (b >>> 1).toNat = b.toNat / 2 := by
  rw [BitVec.toNat_ushiftRight, Nat.shiftRight_one]

theorem toNat_shiftLeft_one_byte (b : Byte) : (b <<< 1).toNat = b.toNat * 2 % 256 := by
  rw [BitVec.toNat_shiftLeft, Nat.shiftLeft_eq]

theorem State.toNat_shiftSource (s : State) (x y : Reg) :
    (s.shiftSource x y).toNat = if s.mode = .legacy then (s.reg y).toNat else (s.reg x).toNat := by
  unfold State.shiftSource
  split <;> next hm => simp [hm]

/-! ### The obligations -/

/-- Settles O20: the write of a result alone. -/
theorem loadImmediate : Obligations.LoadImmediate :=
  fun x nn s => ⟨_, rfl, s.reg_result x nn, rfl, .result s x nn⟩

/-- Settles O21: the sum of two bytes wraps. -/
theorem addImmediateWrapsWithoutFlag : Obligations.AddImmediateWrapsWithoutFlag := by
  refine fun x nn s => ⟨_, rfl, ?_, rfl, .result s x _⟩
  rw [State.reg_result, BitVec.toNat_add]

/-- Settles O22: the write of a result alone. -/
theorem moveCopiesVy : Obligations.MoveCopiesVy :=
  fun x y s => ⟨_, rfl, s.reg_result x (s.reg y), rfl, .result s x _⟩

/-- Settles O23: the operations on bytes are bitwise. -/
theorem logicIsBitwiseAndLeavesVF : Obligations.LogicIsBitwiseAndLeavesVF := by
  refine fun x y s => ⟨⟨_, rfl, fun b => ?_, rfl, .result s x _⟩, ⟨_, rfl, fun b => ?_, rfl, .result s x _⟩,
    ⟨_, rfl, fun b => ?_, rfl, .result s x _⟩⟩
  · rw [State.reg_result, BitVec.getLsbD_or]
  · rw [State.reg_result, BitVec.getLsbD_and]
  · rw [State.reg_result, BitVec.getLsbD_xor]

/-- Settles O24: the wrapped sum, then the carry of the operands the instruction started with. -/
theorem addSetsCarry : Obligations.AddSetsCarry := by
  refine fun x y s => ⟨_, rfl, fun hx => ?_, ?_, rfl, .resultFlag s x _ _⟩
  · rw [s.reg_resultFlag x _ _ hx, BitVec.toNat_add]
  · rw [State.vf_resultFlag, flagByte_carryOut]

/-- A subtraction in either direction, by its minuend `a` and its subtrahend `b`. -/
theorem State.writeResultFlag_sub (s : State) (x : Reg) (a b : Byte) :
    ∃ t, s.writeResultFlag x (a - b) (noBorrow a b) = .next t ∧
      (x ≠ vf → (t.reg x).toNat = (a.toNat + 256 - b.toNat) % 256) ∧
      t.reg vf = (if b.toNat > a.toNat then 0 else 1) ∧ t.pc = s.pc + 2 ∧ Frame { regs := [x, vf] } s t := by
  refine ⟨_, rfl, fun hx => ?_, ?_, rfl, .resultFlag s x _ _⟩
  · rw [s.reg_resultFlag x _ _ hx, toNat_sub_byte]
  · rw [State.vf_resultFlag, flagByte_noBorrow]

/-- Settles O25: one subtraction, with the operands in each of the two orders. -/
theorem subtractSetsNoBorrow : Obligations.SubtractSetsNoBorrow :=
  fun x y s => ⟨s.writeResultFlag_sub x (s.reg x) (s.reg y), s.writeResultFlag_sub x (s.reg y) (s.reg x)⟩

/-- Settles O26: the source is the mode's, and the bit shifted out is its remainder by 2 or its quotient by 128. -/
theorem shiftsByModeSetTheBitShiftedOut : Obligations.ShiftsByModeSetTheBitShiftedOut := by
  intro x y s src hsrc
  rw [← State.toNat_shiftSource] at hsrc
  subst hsrc
  refine ⟨⟨_, rfl, fun hx => ?_, ?_, rfl, .resultFlag s x _ _⟩, ⟨_, rfl, fun hx => ?_, ?_, rfl, .resultFlag s x _ _⟩⟩
  · rw [s.reg_resultFlag x _ _ hx, toNat_shiftRight_one_byte]
  · rw [State.vf_resultFlag, toNat_flagByte_bitOutRight]
  · rw [s.reg_resultFlag x _ _ hx, toNat_shiftLeft_one_byte]
  · rw [State.vf_resultFlag, toNat_flagByte_bitOutLeft]

end Sys2Proof.Machine

/-!
The index register and memory instructions (rules R190 to R195): the values `I` takes, as numbers; what the bytes from
`I` on hold after a write there; and the block load as the inverse of the block store.
-/

namespace Sys2Proof.Machine

/-! ### The values of `I` and the flag (rules R191, R192, R194, R195) -/

theorem toNat_add_byte (i : Word) (b : Byte) : (i + b.setWidth 16).toNat = (i.toNat + b.toNat) % 65536 := by
  rw [BitVec.toNat_add, BitVec.toNat_setWidth_of_le (by decide)]

theorem flagByte_indexOverflow (i : Word) (b : Byte) :
    flagByte (indexOverflow i b) = if i.toNat + b.toNat > 0x0FFF then 1 else 0 := by
  simp [flagByte, indexOverflow]

/-- The highest glyph address is 0x54B, so nothing wraps. -/
theorem toNat_glyphAddress (b : Byte) : (glyphAddress b).toNat = 0x050 + 5 * b.toNat := by
  have := b.isLt
  rw [glyphAddress, Config.fontBase, BitVec.toNat_ofNat]
  omega

section
variable (s : State) (x : Reg)

/-- After a transfer of `n + 1` registers that kept `I`, the index update moves it by the mode. -/
theorem State.index_blockIndex_advance (t : State) (n : Nat) (hi : t.i = s.i := by simp)
    (hm : t.mode = s.mode := by simp) :
    (s.mode = .legacy ∨ s.mode = .intermediate →
      (t.blockIndex (n + 1)).advance.i.toNat = (s.i.toNat + n + 1) % 65536) ∧
    (s.mode = .modern → (t.blockIndex (n + 1)).advance.i = s.i) := by
  rw [State.advance_i, State.blockIndex_i, hi, hm]
  constructor
  · intro hmoves
    have hne : s.mode ≠ .modern := by rcases hmoves with h | h <;> simp [h]
    rw [if_neg hne, BitVec.toNat_add, BitVec.toNat_ofNat, Nat.add_mod_mod, Nat.add_assoc]
  · exact fun hmodern => if_pos hmodern

/-! ### The instructions that write memory or read a block (rules R67, R193 to R195) -/

theorem exec_ldB_of_le (h : s.i.toNat + 2 ≤ 0xFFF) :
    exec (.ldB x) s = .next (s.writeBytes s.i.toNat (bcdDigits (s.reg x))).advance :=
  s.withDataRange_ok _ 3 (.inr h)

theorem exec_storeRegs_of_le (h : s.i.toNat + x.val ≤ 0xFFF) : exec (.storeRegs x) s =
    .next ((s.writeBytes s.i.toNat (s.regsUpTo x)).blockIndex (x.val + 1)).advance :=
  s.withDataRange_ok _ (x.val + 1) (.inr h)

theorem exec_loadRegs_of_le (h : s.i.toNat + x.val ≤ 0xFFF) : exec (.loadRegs x) s =
    .next ((s.setRegsFrom (s.readBytes s.i.toNat (x.val + 1))).blockIndex (x.val + 1)).advance :=
  s.withDataRange_ok _ (x.val + 1) (.inr h)

/-- The byte at an offset into a run of bytes just written. -/
theorem State.readByte_writeBytes_add (a k : Nat) (bytes : List Byte) (hk : k < bytes.length) :
    (s.writeBytes a bytes).readByte (a + k) = bytes.getD k 0 := by
  rw [State.readByte_writeBytes, if_pos ⟨by omega, by omega⟩, Nat.add_sub_cancel_left]

theorem State.readByte_writeBytes_regsUpTo (a : Nat) (r : Reg) (hr : r ≤ x) :
    (s.writeBytes a (s.regsUpTo x)).readByte (a + r.val) = s.reg r := by
  have hlt : r.val < (s.regsUpTo x).length := by simpa [Nat.lt_succ_iff] using hr
  rw [s.readByte_writeBytes_add a r.val _ hlt, s.getD_regsUpTo x r hr]

theorem State.reg_setRegsFrom_readBytes (a : Nat) (r : Reg) (hr : r ≤ x) :
    (s.setRegsFrom (s.readBytes a (x.val + 1))).reg r = s.readByte (a + r.val) := by
  have hlt : r.val < x.val + 1 := Nat.lt_succ_of_le hr
  rw [State.reg_setRegsFrom, State.length_readBytes, if_pos hlt, s.getD_readBytes a _ _ hlt]

/-- The three digits of a byte, as numbers, at the address they were written to. -/
theorem State.toNat_readByte_writeBytes_bcdDigits (a : Nat) (b : Byte) :
    ((s.writeBytes a (bcdDigits b)).readByte a).toNat = b.toNat / 100 ∧
      ((s.writeBytes a (bcdDigits b)).readByte (a + 1)).toNat = b.toNat / 10 % 10 ∧
      ((s.writeBytes a (bcdDigits b)).readByte (a + 2)).toNat = b.toNat % 10 := by
  have := b.isLt
  refine ⟨?_, ?_, ?_⟩
  · rw [State.readByte_writeBytes, if_pos (by simp [bcdDigits]), Nat.sub_self]
    exact Nat.mod_eq_of_lt (by omega)
  all_goals
    rw [State.readByte_writeBytes_add _ _ _ _ (by simp [bcdDigits])]
    exact Nat.mod_eq_of_lt (by omega)

end

/-- A frame that leaves `I` alone is one that lets it change. -/
theorem Frame.allowIndex {w : Touches} {s t : State} (h : Frame w s t) : Frame { w with index := true } s t :=
  { h with index := fun hi => by cases hi }

/-! ### The obligations -/

/-- Settles O27: NNN as an address is NNN as a number. -/
theorem loadIndex : Obligations.LoadIndex :=
  fun nnn s => ⟨_, rfl, toNat_addressOf nnn, rfl, (Frame.refl _ s).setIndex.advance⟩

/-- Settles O28: the wrapped sum in `I`, and the flag of the unreduced one, written last. -/
theorem addIndexKeepsSixteenBits : Obligations.AddIndexKeepsSixteenBits := by
  refine fun x s => ⟨_, rfl, toNat_add_byte s.i (s.reg x), ?_, rfl, (Frame.refl _ s).setIndex.setFlag.advance⟩
  rw [State.reg_advance, State.reg_setFlag, if_pos rfl, flagByte_indexOverflow]

/-- Settles O29: the address of a glyph does not wrap (`toNat_glyphAddress`). The name `glyphAddress` is the model's. -/
theorem loadGlyphAddress : Obligations.GlyphAddress :=
  fun x s => ⟨_, rfl, toNat_glyphAddress (s.reg x), rfl, (Frame.refl _ s).setIndex.advance⟩

/-- Settles O30: the three digits are read back where they were written, and a byte is the sum of its weighted
digits. -/
theorem bcdStoresThreeDigits : Obligations.BcdStoresThreeDigits := by
  refine fun x s => ⟨fun h => ?_, fun h => s.withDataRange_fault _ 3 ⟨by decide, h⟩⟩
  obtain ⟨hundreds, tens, ones⟩ := s.toNat_readByte_writeBytes_bcdDigits s.i.toNat (s.reg x)
  refine ⟨_, exec_ldB_of_le s x h, hundreds, tens, ones, ?_, by simp, .execLdB x s⟩
  simp only [State.readByte_advance, hundreds, tens, ones]
  omega

/-- Settles O31: each register is read back at its offset, and `I` moves by the mode. -/
theorem blockStore : Obligations.BlockStore := by
  refine fun x s => ⟨fun h => ?_, fun h => s.withDataRange_fault _ (x.val + 1) ⟨x.val.succ_pos, h⟩⟩
  obtain ⟨hmoves, hstays⟩ := s.index_blockIndex_advance (s.writeBytes s.i.toNat (s.regsUpTo x)) x.val
  refine ⟨_, exec_storeRegs_of_le s x h, fun r hr => ?_, hmoves, hstays, by simp,
    (Frame.execStoreRegs x s).allowIndex⟩
  simpa using s.readByte_writeBytes_regsUpTo x s.i.toNat r hr

/-- Settles O32: each register takes the byte at its offset, and `I` moves by the mode. -/
theorem blockLoad : Obligations.BlockLoad := by
  refine fun x s => ⟨fun h => ?_, fun h => s.withDataRange_fault _ (x.val + 1) ⟨x.val.succ_pos, h⟩⟩
  obtain ⟨hmoves, hstays⟩ := s.index_blockIndex_advance (s.setRegsFrom (s.readBytes s.i.toNat (x.val + 1))) x.val
  refine ⟨_, exec_loadRegs_of_le s x h, fun r hr => ?_, hmoves, hstays, by simp,
    (Frame.execLoadRegs x s).allowIndex⟩
  simpa using s.reg_setRegsFrom_readBytes x s.i.toNat r hr

/-- Settles O33: the load reads, register by register, the byte the store left (O31, O32). -/
theorem blockLoadUndoesBlockStore : Obligations.BlockLoadUndoesBlockStore := by
  intro x s hrange
  obtain ⟨t, ht, hstored, -⟩ := (blockStore x s).1 hrange
  refine ⟨t, ht, fun u hbytes hi => ?_⟩
  obtain ⟨w, hw, hloaded, -⟩ := (blockLoad x u).1 (by rwa [hi])
  refine ⟨w, hw, fun r hr => ?_⟩
  calc w.reg r = u.readByte (u.i.toNat + r.val) := hloaded r hr
    _ = t.readByte (s.i.toNat + r.val) := by rw [hi, hbytes]
    _ = s.reg r := hstored r hr

end Sys2Proof.Machine

/-!
The display instructions (rules R210 to R214): the cells DXYN targets are distinct, so its XORs and its collision bit
are those of the set of targeted cells; a second draw at the same coordinates targets the same cells.
-/

namespace Sys2Proof.Machine

/-! ### The targeted cells (rules R211, R212) -/

/-- Up to 32 rows do not meet themselves on the way round the framebuffer: two cells of a sprite are at most
`31 * 64 + 7` apart on the linear index. -/
theorem nodup_spriteCells (x y row : Nat) (rows : List Byte) (hlen : rows.length ≤ 32) :
    (spriteCells x y row rows).Nodup := by
  induction rows generalizing row with
  | nil => exact List.nodup_nil
  | cons b rest ih =>
    rw [List.length_cons] at hlen
    rw [spriteCells, List.nodup_append]
    refine ⟨?_, ih (row + 1) (by omega), ?_⟩
    · have hcolumns : (spriteColumns b).Nodup := List.nodup_range.filter _
      refine hcolumns.map_on fun c hc d hd heq => ?_
      obtain ⟨hc, -⟩ := (mem_spriteColumns b c).mp hc
      obtain ⟨hd, -⟩ := (mem_spriteColumns b d).mp hd
      omega
    · intro k hfirst j hrest heq
      obtain ⟨c, hc, rfl⟩ := List.mem_map.mp hfirst
      obtain ⟨hc, -⟩ := (mem_spriteColumns b c).mp hc
      obtain ⟨r, d, hr, hd, -, rfl⟩ := (mem_spriteCells x y (row + 1) rest j).mp hrest
      omega

section
variable (s : State) (x y : Reg) (n : BitVec 4)

theorem State.mem_drawTargets (k : Nat) : k ∈ s.drawTargets x y n ↔ s.SpriteHits x y n k := by
  rw [State.drawTargets, mem_spriteCells, State.length_readBytes]
  refine exists_congr fun row => exists_congr fun col => and_congr_right fun hrow => ?_
  rw [s.getD_readBytes _ _ _ hrow, Nat.zero_add]

theorem State.nodup_drawTargets : (s.drawTargets x y n).Nodup := by
  have := n.isLt
  exact nodup_spriteCells _ _ _ _ (by rw [State.length_readBytes]; omega)

/-- The framebuffer and the collision bit DXYN ends with (rule R211). -/
def State.drawn : Framebuffer × Bool := drawCells s.fb false (s.drawTargets x y n)

theorem State.cell_drawn (k : Nat) :
    (s.drawn x y n).1.cell k = (s.fb.cell k ^^ decide (k ∈ s.drawTargets x y n)) :=
  (drawCells_spec _ _ _ (s.nodup_drawTargets x y n) (spriteCells_lt _ _ _ _)).1 k

theorem State.cell_drawn_of_hit {k : Nat} (h : s.SpriteHits x y n k) :
    (s.drawn x y n).1.cell k = !s.fb.cell k := by
  simp [State.cell_drawn, State.mem_drawTargets, h]

theorem State.cell_drawn_of_not_hit {k : Nat} (h : ¬ s.SpriteHits x y n k) :
    (s.drawn x y n).1.cell k = s.fb.cell k := by
  simp [State.cell_drawn, State.mem_drawTargets, h]

theorem State.collision_drawn_iff :
    (s.drawn x y n).2 = true ↔ ∃ k, s.SpriteHits x y n k ∧ s.fb.cell k = true := by
  have hcells := drawCells_spec s.fb false _ (s.nodup_drawTargets x y n) (spriteCells_lt _ _ _ _)
  rw [State.drawn, hcells.2, Bool.false_or, List.any_eq_true]
  exact exists_congr fun k => and_congr_left' (s.mem_drawTargets x y n k)

theorem State.collision_drawn_eq_false_iff :
    (s.drawn x y n).2 = false ↔ ∀ k, s.SpriteHits x y n k → s.fb.cell k = false := by
  rw [← Bool.not_eq_true, State.collision_drawn_iff]
  simp

/-- The flag, written last, is what VF holds (rule R24). -/
theorem State.reg_vf_setFlag_advance (f : Bool) : (s.setFlag f).advance.reg vf = flagByte f :=
  State.reg_setReg_same _ vf (flagByte f)

theorem exec_drw_of_le (h : n.toNat = 0 ∨ s.i.toNat + n.toNat - 1 ≤ 0xFFF) : exec (.drw x y n) s =
    .next ((s.setDisplay (s.drawn x y n).1).setFlag (s.drawn x y n).2).advance :=
  s.withDataRange_ok _ n.toNat h

end

theorem State.SpriteHits.lt {s : State} {x y : Reg} {n : BitVec 4} {k : Nat} (h : s.SpriteHits x y n k) :
    k < 2048 := by
  obtain ⟨row, col, -, -, -, rfl⟩ := h
  exact Nat.mod_lt _ (by decide)

/-- The targeted cells are fixed by the coordinates, `I` and the bytes of memory. -/
theorem State.spriteHits_congr {s t : State} {x y : Reg} {n : BitVec 4} (hx : t.reg x = s.reg x)
    (hy : t.reg y = s.reg y) (hi : t.i = s.i) (hbytes : ∀ a, t.readByte a = s.readByte a) (k : Nat) :
    t.SpriteHits x y n k ↔ s.SpriteHits x y n k := by
  simp only [State.SpriteHits, hx, hy, hi, hbytes]

/-! ### The obligations -/

/-- Settles O34: every cell of the cleared framebuffer is 0. -/
theorem clearScreen : Obligations.ClearScreen :=
  fun s => ⟨_, rfl, fun k _ => Framebuffer.cell_clear k, rfl, rfl, (Frame.refl _ s).setDisplay.advance⟩

/-- Settles O35: the targeted cells are distinct, so each is flipped once, and the flag is written last. -/
theorem drawXorsTheTargetedCells : Obligations.DrawXorsTheTargetedCells := by
  refine fun x y n s => ⟨fun h => ?_, fun h => s.withDataRange_fault _ n.toNat h⟩
  refine ⟨_, exec_drw_of_le s x y n h, fun k _ => ⟨s.cell_drawn_of_hit x y n, s.cell_drawn_of_not_hit x y n⟩,
    ?_, ?_, rfl, rfl, (Frame.refl _ s).setDisplay.setFlag.advance⟩
  · rintro ⟨k, -, hhit, hset⟩
    rw [State.reg_vf_setFlag_advance, (s.collision_drawn_iff x y n).mpr ⟨k, hhit, hset⟩]
    rfl
  · intro hunset
    rw [State.reg_vf_setFlag_advance,
      (s.collision_drawn_eq_false_iff x y n).mpr fun k hhit => hunset k hhit.lt hhit]
    rfl

/-- Settles O36: by its frame the first draw leaves the targets of the second as they were, so O35 applies twice with
the same cells. -/
theorem drawTwiceRestoresTheScreen : Obligations.DrawTwiceRestoresTheScreen := by
  intro x y n s hrange
  obtain ⟨t, ht, hfirst, -, -, -, -, hframe⟩ := (drawXorsTheTargetedCells x y n s).1 hrange
  refine ⟨t, ht, fun hx hy => ?_⟩
  have hi : t.i = s.i := hframe.index rfl
  have hhits := State.spriteHits_congr (n := n) hx hy hi fun a => hframe.bytes a List.not_mem_nil
  obtain ⟨u, hu, hsecond, hcollides, hmisses, -⟩ := (drawXorsTheTargetedCells x y n t).1 (by rwa [hi])
  simp only [hhits] at hsecond hcollides hmisses
  refine ⟨u, hu, Framebuffer.ext_cell _ _ fun k hk => ?_, ?_, ?_⟩
  · by_cases hhit : s.SpriteHits x y n k
    · rw [(hsecond k hk).1 hhit, (hfirst k hk).1 hhit, Bool.not_not]
    · rw [(hsecond k hk).2 hhit, (hfirst k hk).2 hhit]
  · rintro ⟨k, hk, hhit, hunset⟩
    exact hcollides ⟨k, hk, hhit, by rw [(hfirst k hk).1 hhit, hunset, Bool.not_false]⟩
  · intro hset
    exact hmisses fun k hk hhit => by rw [(hfirst k hk).1 hhit, hset k hk hhit, Bool.not_true]

/-- Refutes O37: with cell 0 set, one row of the byte 0x80 (the font's last, at 0x09F) drawn at (0, 0) unsets that cell,
so drawn again it meets no set cell and VF is 0. -/
theorem not_secondDrawCollidesWheneverTheSpriteHasASetBit :
    ¬ Obligations.SecondDrawCollidesWheneverTheSpriteHasASetBit := by
  intro h
  have hvf := h 0 0 1 { State.reset with i := 0x09F, fb := Framebuffer.clear.flip 0 } _ _ (.inr (by decide))
    rfl rfl rfl rfl ⟨0, 0, 0, by decide, by decide, by decide, by decide⟩
  exact absurd hvf (by decide)

end Sys2Proof.Machine

/-!
The timers and the random source (rules R230 to R236): one draw, the byte of the k-th draw, and the instructions that
read and set the timers or store a drawn byte.
-/

namespace Sys2Proof.Machine

/-! ### One draw (rule R236, log entry 1) -/

section
variable (r : RngState)

theorem RngState.next_byte : r.next.1 = r.injected.headD (Config.rngByte r.seed r.drawn) := by
  rw [RngState.next]
  split <;> next hinj => rw [hinj]; rfl

@[simp] theorem RngState.next_seed : r.next.2.seed = r.seed := by
  rw [RngState.next]
  split <;> rfl

@[simp] theorem RngState.next_drawn : r.next.2.drawn = r.drawn + 1 := by
  rw [RngState.next]
  split <;> rfl

@[simp] theorem RngState.next_injected : r.next.2.injected = r.injected.tail := by
  rw [RngState.next]
  split <;> next hinj => rw [hinj]; rfl

end

/-- The injected bytes come first, in order; past them a draw is the free byte of the seed at its own number, counted
from construction. -/
theorem drawNth_eq (k : Nat) (r : RngState) :
    drawNth k r = r.injected.getD k (Config.rngByte r.seed (r.drawn + k)) := by
  induction k generalizing r with
  | zero => rw [drawNth, RngState.next_byte, Nat.add_zero]; cases r.injected <;> rfl
  | succ k ih =>
    have hnumber : r.drawn + 1 + k = r.drawn + (k + 1) := by omega
    rw [drawNth, ih, RngState.next_injected, RngState.next_seed, RngState.next_drawn, hnumber]
    cases r.injected <;> rfl

/-! ### The obligations -/

/-- Settles O40: `drawNth_eq` at the source `construct` makes of the seed, with nothing drawn yet. -/
theorem drawsFollowTheSeed : Obligations.DrawsFollowTheSeed := by
  refine fun k => ⟨fun bytes hk => ?_, fun n => ?_⟩
  · calc drawNth k (RngState.ofSeed (.sequence bytes))
        = bytes.getD k (Config.rngByte 0 (0 + k)) := drawNth_eq k _
      _ = bytes[k] := List.getD_eq_getElem _ _ hk
      _ = bytes.getD k 0 := (List.getD_eq_getElem _ _ hk).symm
  · calc drawNth k (RngState.ofSeed (.value n))
        = Config.rngByte n (0 + k) := drawNth_eq k _
      _ = Config.rngByte n k := by rw [Nat.zero_add]

/-- Settles O38: each instruction is one write and the advance of `PC`. -/
theorem timerGetAndSet : Obligations.TimerGetAndSet := fun x s =>
  ⟨⟨_, rfl, s.reg_result x s.dt, rfl, Frame.result s x s.dt⟩,
    ⟨_, rfl, rfl, rfl, (Frame.refl _ s).setDelay.advance⟩,
    ⟨_, rfl, rfl, rfl, (Frame.refl _ s).setSound.advance⟩⟩

/-- Settles O39: the source left behind is `s.rng.next.2`, from which draw `k` is draw `k + 1` of `s.rng` by the
definition of `drawNth`. -/
theorem randomByteIsMasked : Obligations.RandomByteIsMasked := by
  refine fun x nn s => ⟨_, rfl, fun b => ?_, s.rng.next_drawn, fun _ => rfl, rfl,
    (Frame.refl _ s).setRng.setReg.advance⟩
  rw [State.reg_result, BitVec.getLsbD_and, drawNth]

end Sys2Proof.Machine

/-!
The key bank (rules R250 to R252, R282): what the skips on a key test and where they leave `PC`, and which key the wait
stores.
-/

namespace Sys2Proof.Machine

section
variable (s : State) {x : Reg} {k : Key}

/-! ### The skips (rules R250, R251, R282) -/

/-- A key number in Vx is the key whose flag is tested. -/
theorem State.skipOnKey_of_key {d : Bool} (hk : (s.reg x).toNat = k.val) :
    s.skipOnKey x d = .next (s.skipIf (s.keys[k] == d)) := by
  rw [State.skipOnKey_of_le (by omega), hk, s.keyDown_of_lt]

theorem State.skipIf_beq_true_pc (c : Bool) :
    (s.skipIf (c == true)).pc = if c = true then s.pc + 4 else s.pc + 2 := by
  cases c <;> rfl

theorem State.skipIf_beq_false_pc (c : Bool) :
    (s.skipIf (c == false)).pc = if c = true then s.pc + 2 else s.pc + 4 := by
  cases c <;> rfl

/-- The information of the fault is the number in Vx. -/
theorem State.toNat_faultInfo_raiseFault_byte (c : FaultCause) (b : Byte) :
    (s.raiseFault c (b.setWidth 16)).faultInfo.toNat = b.toNat :=
  BitVec.toNat_setWidth_of_le (by decide)

/-! ### The key that the wait stores (rule R252) -/

theorem State.selectKey_pressedKeys_eq_none :
    selectKey s.pressedKeys = none ↔ ∀ k : Key, s.keys[k] = false := by
  rw [selectKey_eq_none, List.eq_nil_iff_forall_not_mem]
  simp only [s.mem_pressedKeys, Bool.not_eq_true]

/-- With a key pressed, `KEY_SELECT` answers a pressed key. -/
theorem State.exists_selectKey_pressedKeys (h : ∃ k : Key, s.keys[k] = true) :
    ∃ k : Key, selectKey s.pressedKeys = some k ∧ s.keys[k] = true := by
  obtain ⟨j, hj⟩ := h
  cases hsel : selectKey s.pressedKeys with
  | none => exact absurd hj (by simp [s.selectKey_pressedKeys_eq_none.mp hsel j])
  | some k => exact ⟨k, rfl, (s.mem_pressedKeys k).mp (selectKey_mem _ k hsel)⟩

/-- The choice is made from the key bank alone. -/
theorem State.pressedKeys_congr {t : State} (h : t.keys = s.keys) : t.pressedKeys = s.pressedKeys := by
  simp only [State.pressedKeys, h]

theorem toNat_keyNumber (k : Key) : (BitVec.ofNat 8 k.val).toNat = k.val := by
  rw [BitVec.toNat_ofNat, Nat.mod_eq_of_lt (by omega)]

end

/-! ### The obligations -/

/-- Settles O41: each is a skip on the flag of the key numbered by Vx, and above 15 both raise the fault. -/
theorem skipsOnAKey : Obligations.SkipsOnAKey := by
  refine fun x s => ⟨fun k hk => ⟨?_, ?_⟩, fun hx i hi => ?_⟩
  · exact ⟨_, s.skipOnKey_of_key hk, s.skipIf_beq_true_pc s.keys[k], (Frame.refl _ s).skipIf⟩
  · exact ⟨_, s.skipOnKey_of_key hk, s.skipIf_beq_false_pc s.keys[k], (Frame.refl _ s).skipIf⟩
  · obtain rfl | rfl := hi
    all_goals exact ⟨_, State.skipOnKey_of_gt hx, s.toNat_faultInfo_raiseFault_byte _ _, rfl⟩

/-- Settles O42: the stored key is `KEY_SELECT` of the pressed keys, which any state with the same key bank shares. -/
theorem waitForKey : Obligations.WaitForKey := by
  refine fun x s => ⟨fun hnone => exec_ldVxK_of_none (s.selectKey_pressedKeys_eq_none.mpr hnone), fun hsome => ?_⟩
  obtain ⟨k, hsel, hk⟩ := s.exists_selectKey_pressedKeys hsome
  refine ⟨k, hk, fun s' hkeys => ⟨_, exec_ldVxK_of_some (s.pressedKeys_congr hkeys ▸ hsel), ?_, rfl, .result s' x _⟩⟩
  rw [State.reg_result, toNat_keyNumber]

end Sys2Proof.Machine

/-!
Faults and the ends of a run (rules R276 to R283, R326, R331), construction, loading and the driver's writes (rules R295
to R298, R310, R316): each a short consequence of what a step, an instruction or an operation can do.
-/

namespace Sys2Proof.Machine

/-! ### Faults (rules R276, R277) -/

/-- Settles O45: a fetch fault and an instruction's fault are `raiseFault` alone, and the timer steps leave a state with
a fault recorded as it is. -/
theorem faultsArePrecise : Obligations.FaultsArePrecise := by
  intro s u h hs hu
  rcases step_cases s u h with ⟨hfrozen, -⟩ | ⟨-, -, rfl⟩ | ⟨-, -, t, ht, rfl⟩
  · exact absurd hs hfrozen
  · rfl
  · have htf : t.faultCause ≠ .noFault := by rwa [t.endCycle_faultCause] at hu
    rw [t.endCycle_of_fault htf]
    rcases exec_raises_or_frame _ hs ht with ⟨cause, info, rfl⟩ | ⟨hnone, -⟩
    · rfl
    · exact absurd hnone htf

/-- Settles O46: the two ways an instruction ends (`exec_cases`) are the two answers of the table. -/
theorem faultsAreExactlyThoseOfTheTable : Obligations.FaultsAreExactlyThoseOfTheTable := by
  intro i s hs
  obtain ⟨t, ht, he⟩ := exec_cases i s
  refine ⟨t, ht, ?_⟩
  cases he with
  | faults cause info expected raised => simp only [expected]; exact raised
  | completes expected hc => simp only [expected]; exact hc.cause.trans hs

/-! ### The timers' cycle and the end of a program (rules R326, R331) -/

section
variable {s t : State}

/-- A cycle that executes its instruction without a fault ends with both timer steps (rule R120). -/
theorem step_of_exec_noFault (hf : s.faultCause = .noFault) (hp : s.pc.toNat ≤ 0xFFE)
    (h : exec (decodeWord s.fetchWord) s = .next t) (ht : t.faultCause = .noFault) :
    step s = .next { t with
      dt := BitVec.ofNat 8 (t.dt.toNat - 1), st := BitVec.ofNat 8 (t.st.toNat - 1),
      tone := t.tone || decide (t.st.toNat = 1) } := by
  rw [step_of_exec s t hf hp h, t.endCycle_eq ht]

theorem toNat_ofNat_decrement (b : Byte) : (BitVec.ofNat 8 (b.toNat - 1)).toNat = b.toNat - 1 := by
  rw [BitVec.toNat_ofNat, Nat.mod_eq_of_lt (Nat.lt_of_le_of_lt (Nat.sub_le _ _) b.isLt)]

/-- Being ended depends on the fault record, `PC` and the bytes of memory only. -/
theorem State.Ended.of_timers (h : s.Ended) (dt st : Byte) (tone : Bool) :
    State.Ended { s with dt := dt, st := st, tone := tone } := h

end

/-- Settles O12: the instruction sets its timer, and the timer steps of the same cycle read the value set. -/
theorem timerSetTicksInItsOwnCycle : Obligations.TimerSetTicksInItsOwnCycle := by
  refine fun s x hf hp => ⟨fun hi => ?_, fun hi => ?_⟩
  · have hexec : exec (decodeWord s.fetchWord) s = .next (s.setDelay (s.reg x)).advance := by rw [hi]; rfl
    exact ⟨_, step_of_exec_noFault hf hp hexec hf, toNat_ofNat_decrement (s.reg x), toNat_ofNat_decrement s.st⟩
  · have hexec : exec (decodeWord s.fetchWord) s = .next (s.setSound (s.reg x)).advance := by rw [hi]; rfl
    refine ⟨_, step_of_exec_noFault hf hp hexec hf, toNat_ofNat_decrement (s.reg x), toNat_ofNat_decrement s.dt, ?_⟩
    exact Bool.or_eq_true_iff.trans (or_congr_right decide_eq_true_iff)

/-- Settles O54: the jump puts into `PC` what it holds, so the timer steps make the only change. -/
theorem endedProgramStaysEnded : Obligations.EndedProgramStaysEnded := by
  intro s hended
  obtain ⟨hf, hp, nnn, hi, hpc⟩ := id hended
  have hexec : exec (decodeWord s.fetchWord) s = .next s := by
    rw [hi]
    exact congrArg (fun w => Host.Outcome.next (s.setPc w)) hpc
  exact ⟨_, step_of_exec_noFault hf hp hexec hf, hended.of_timers _ _ _, rfl⟩

/-! ### Construction, loading and the driver's writes (rules R295 to R298, R310, R316) -/

/-- Settles O2: `construct` ends in a reset, which keeps the mode, the font and the source it was given. -/
theorem constructFixesModeAndSeedThenResets : Obligations.ConstructFixesModeAndSeedThenResets :=
  fun _ _ _ => ⟨State.resetCore_mode _, State.resetCore_font _, State.resetCore_rng _, rfl⟩

section
variable {s : State} {bytes : List Byte}

theorem State.loadProgram_of_empty (h : bytes.length = 0) : s.loadProgram bytes = .error .romEmpty := if_pos h

theorem State.loadProgram_of_too_large (h : bytes.length > 3584) : s.loadProgram bytes = .error .romTooLarge :=
  (if_neg (by omega)).trans (if_pos h)

theorem State.loadProgram_of_fits (hpos : 0 < bytes.length) (hle : bytes.length ≤ 3584) :
    s.loadProgram bytes = .ok (s.writeBytes 0x200 bytes) :=
  (if_neg (by omega)).trans (if_neg (Nat.not_lt.mpr hle))

end

/-- Settles O59: a load that is not refused is one run of bytes written at 0x200. -/
theorem loadProgramCopiesTheImage : Obligations.LoadProgramCopiesTheImage := by
  refine fun bytes s => ⟨State.loadProgram_of_empty, State.loadProgram_of_too_large, fun hpos hle => ?_⟩
  refine ⟨_, State.loadProgram_of_fits hpos hle, fun j hj => s.readByte_writeBytes_add 0x200 j bytes hj,
    (Frame.refl _ s).writeBytes fun k hk => ?_⟩
  simpa using hk

/-- Settles O60: `set_key` writes one entry of the key bank; each clear is one record update. -/
theorem driverWritesKeysAndClearsLatches : Obligations.DriverWritesKeysAndClearsLatches := by
  refine fun s k pressed => ⟨⟨s.setKey k pressed, rfl, ?_, fun j hj => ?_, rfl⟩, rfl, rfl, rfl⟩
  · exact Vector.getElem_set_self k.isLt
  · exact Vector.getElem_set_ne k.isLt j.isLt fun heq => hj (Fin.ext heq.symm)

end Sys2Proof.Machine
